-- ==== Sys2Proof/Config.lean ====
section
/-! DEFINITION. The one parameter the spec leaves OPEN (`00_scope.md` R4, `92_eei_decisions.md` D5). -/

namespace Sys2Proof

/-- How far `BUF_SIZE` lies above its least value 111. It has no body: nothing proves a value of it,
so every statement holds for every admissible `BUF_SIZE` (log entry 1). -/
opaque Config.bufSizeAboveMin : Fin 2147483537

/-- `BUF_SIZE`, the number of bytes of `BUF`: any value with 111 <= `BUF_SIZE` <= 2^31 - 1
(`00_scope.md` R4). -/
def Config.bufSize : Nat := Config.bufSizeAboveMin.val + 111

end Sys2Proof
end

