-- ==== Sys2Proof/Word.lean ====
section
/-! DEFINITION. The word types of the core: every value is an unsigned bit vector of a stated width
(`00_scope.md` section 5.1). -/

namespace Sys2Proof

/-- A byte of `BUF` (`10_state.md` R16), and the 8-bit descriptor fields `OPC` and `FLAGS` (R46). -/
abbrev Byte := BitVec 8

/-- A 32-bit word: a descriptor operand, a half block, a Blowfish word. -/
abbrev Word := BitVec 32

/-- A DES block or key as one value, `be(b0, ..., b7)` (`40_des_primitives.md` R60). -/
abbrev Block := BitVec 64

/-- A DES subkey `DK[i]`, and the expansion of a half block (`10_state.md` R10). -/
abbrev Subkey := BitVec 48

/-- The (reversed) DES salt, 24 bits (`43_des_crypt.md` R90). -/
abbrev Salt := BitVec 24

/-- Half of a permuted DES key, 28 bits (`41_des_key_schedule.md` R75). -/
abbrev KeyHalf := BitVec 28

/-- A command as the core sees it at the command port (`30_encoding.md` R45). -/
abbrev CommandWord := BitVec 160

end Sys2Proof
end

