-- ==== Sys2Proof/Machine/Bits.lean ====
section
/-! DEFINITION. Bit selection, rotation, reversal, extension and byte order (`00_scope.md` section 5). -/

namespace Sys2Proof.Machine

/-- `pos(v, n, j)`: position 1 is the most significant bit of the n-bit value `v` (`00_scope.md` 5.2). -/
def pos {n : Nat} (v : BitVec n) (j : Nat) : Bool := v.getLsbD (n - j)

/-- `Permute(v, n, T)`, in the executable form of `00_scope.md` section 5.3: position j of the m-bit result
holds position `T[j]` of `v`. -/
def permute {n : Nat} (m : Nat) (v : BitVec n) (t : List Nat) : BitVec m :=
  t.foldl (fun out p => (out <<< 1) ||| (BitVec.ofBool (pos v p)).setWidth m) 0

/-- `a || b`: concatenation into `w` bits, `a` supplying the more significant bits (`00_scope.md` 5.3). -/
def cat {n m : Nat} (w : Nat) (a : BitVec n) (b : BitVec m) : BitVec w :=
  (a.setWidth w <<< m) ||| b.setWidth w

/-- `rol28(v, n)`: bits leaving the top re-enter at the bottom (`00_scope.md` 5.3, `48_control_memory_system.md`
R139). -/
def rol28 (v : KeyHalf) (n : Nat) : KeyHalf := (v <<< n) ||| (v >>> (28 - n))

/-- `bitrev24(s)`: bit `23 - i` of the result is bit `i` of `s` (`00_scope.md` 5.3). -/
def bitrev24 (s : Salt) : Salt := s.reverse

/-- `sext_32(b)` (`00_scope.md` 5.3). -/
def sext32 (b : Byte) : Word := b.signExtend 32

/-- `zext_32(b)` (`00_scope.md` 5.3). -/
def zext32 (b : Byte) : Word := b.setWidth 32

/-- `be(b0, b1, ...)`: big-endian packing, the first byte most significant (`20_memory.md` R32). The width
is 8 times the number of bytes. -/
def be (w : Nat) (bytes : List Byte) : BitVec w :=
  bytes.foldl (fun acc b => (acc <<< 8) ||| b.setWidth w) 0

/-- `bytes_be(v, k)`: the k bytes of the 8k-bit value `v`, most significant first (`20_memory.md` R32). -/
def bytesBe {w : Nat} (k : Nat) (v : BitVec w) : List Byte :=
  (List.range k).map fun i => v.extractLsb' (8 * (k - 1 - i)) 8

/-- `sint(W)`: an operand field as a signed number (`30_encoding.md` R47). -/
def sint (v : Word) : Int := v.toInt

/-- `uint`: the `LEN` field as an unsigned number (`30_encoding.md` R47). -/
def uint (v : BitVec 16) : Nat := v.toNat

end Sys2Proof.Machine
end

