-- ==== Sys2Proof/Syntax.lean ====
section
/-! DEFINITION. The ten commands of CSCC command set 1.0 (`30_encoding.md` R48), one constructor a row of
`opcode_table.json`, operands in the order of the listing syntax (R52). An operand of type `Word` is
the field's 32 bits, read as a signed number where it is used (R47). -/

namespace Sys2Proof

/-- A command with the fields it uses; the fields it does not use are zero in its descriptor (R49). -/
inductive Instr where
  /-- `DES.KEY a, len`: load the DES key schedule (R80). -/
  | desKey (a : Word) (len : BitVec 16)
  /-- `DES.ENC a, b`: encipher one block (R85). -/
  | desEnc (a b : Word)
  /-- `DES.DEC a, b`: decipher one block (R86). -/
  | desDec (a b : Word)
  /-- `DES.CRYPT a, iterations, salt`: salted iterated DES in place (R91). -/
  | desCrypt (a iterations salt : Word)
  /-- `DES.CLR`: erase the DES key schedule (R81). -/
  | desClr
  /-- `BF.KEY a, len`: load the Blowfish key state (R113). -/
  | bfKey (a : Word) (len : BitVec 16)
  /-- `BF.ENC a, b`: encipher one block (R104). -/
  | bfEnc (a b : Word)
  /-- `BF.DEC a, b`: decipher one block (R105). -/
  | bfDec (a b : Word)
  /-- `BF.BCRYPT key, len, salt, cost, out, flags`: bcrypt digest (R123). -/
  | bfBcrypt (key : Word) (len : BitVec 16) (salt cost out : Word) (flags : Byte)
  /-- `BF.CLR`: erase the Blowfish key state (R114). -/
  | bfClr
deriving DecidableEq, Repr

end Sys2Proof
end

