-- ==== Sys2Proof/WellFormed.lean ====
section
/-! DEFINITION. Which terms of `Instr` a descriptor can carry (`30_encoding.md` R49). -/

namespace Sys2Proof

/-- Bits 7:1 of `FLAGS` are reserved and must be zero (`30_encoding.md` R49, `93_implementation_defined.md`
U1); bit 0 is `SIGNBUG`. -/
def flagsReservedZero (flags : Byte) : Bool := flags.extractLsb' 1 7 == 0

/-- A term is well formed when some descriptor stands for it: every operand field takes any value, and
only `FLAGS` of `BF.BCRYPT` has reserved bits (R49). -/
def Instr.wellFormed : Instr → Bool
  | .desKey _ _ => true
  | .desEnc _ _ => true
  | .desDec _ _ => true
  | .desCrypt _ _ _ => true
  | .desClr => true
  | .bfKey _ _ => true
  | .bfEnc _ _ => true
  | .bfDec _ _ => true
  | .bfBcrypt _ _ _ _ _ flags => flagsReservedZero flags
  | .bfClr => true

end Sys2Proof
end

