-- ==== Sys2Proof/Decode.lean ====
section
/-! DEFINITION. Decoding and encoding of the one format `CMD160` (`30_encoding.md` R45 to R51). -/

namespace Sys2Proof

/-- The seven fields of format `CMD160` (`30_encoding.md` R46). -/
structure Descriptor where
  /-- bits 7:0 -/
  opc : Byte
  /-- bits 15:8 -/
  flags : Byte
  /-- bits 31:16 -/
  len : BitVec 16
  /-- bits 63:32 -/
  a : Word
  /-- bits 95:64 -/
  b : Word
  /-- bits 127:96 -/
  c : Word
  /-- bits 159:128 -/
  d : Word
deriving DecidableEq, Repr

/-- Each field is a contiguous slice, used as it stands (`30_encoding.md` R46, R47). -/
def Descriptor.ofBits (w : CommandWord) : Descriptor where
  opc := w.extractLsb' 0 8
  flags := w.extractLsb' 8 8
  len := w.extractLsb' 16 16
  a := w.extractLsb' 32 32
  b := w.extractLsb' 64 32
  c := w.extractLsb' 96 32
  d := w.extractLsb' 128 32

/-- The descriptor with the given fields, `W4 W3 W2 W1 W0` (`30_encoding.md` R45, R46). -/
def Descriptor.toBits (f : Descriptor) : CommandWord :=
  Machine.cat 160 f.d (Machine.cat 128 f.c (Machine.cat 96 f.b
    (Machine.cat 64 f.a (Machine.cat 32 f.len (Machine.cat 16 f.flags f.opc)))))

/-- The ten defined opcodes (`30_encoding.md` R48). -/
inductive Opcode where
  | desKey | desEnc | desDec | desCrypt | desClr
  | bfKey | bfEnc | bfDec | bfBcrypt | bfClr
deriving DecidableEq, Repr

/-- The defined opcodes in the order of the table of R48. -/
def opcodes : List Opcode :=
  [.desKey, .desEnc, .desDec, .desCrypt, .desClr, .bfKey, .bfEnc, .bfDec, .bfBcrypt, .bfClr]

/-- The value of the `OPC` field (`30_encoding.md` R48). -/
def Opcode.value : Opcode → Byte
  | .desKey => 0x01
  | .desEnc => 0x02
  | .desDec => 0x03
  | .desCrypt => 0x04
  | .desClr => 0x05
  | .bfKey => 0x11
  | .bfEnc => 0x12
  | .bfDec => 0x13
  | .bfBcrypt => 0x14
  | .bfClr => 0x15

/-- The opcode with a given value, if one is defined; the other 246 values are undefined (R50). -/
def opcodeOf (v : Byte) : Option Opcode := opcodes.find? fun o => o.value == v

/-- The must-be-zero fields of a command: the columns marked 0 in the table of R48, and bits 7:1 of
`FLAGS` for `BF.BCRYPT` (`30_encoding.md` R49). -/
def Opcode.reservedZero (f : Descriptor) : Opcode → Bool
  | .desKey => f.flags == 0 && f.b == 0 && f.c == 0 && f.d == 0
  | .desEnc => f.flags == 0 && f.len == 0 && f.c == 0 && f.d == 0
  | .desDec => f.flags == 0 && f.len == 0 && f.c == 0 && f.d == 0
  | .desCrypt => f.flags == 0 && f.len == 0 && f.b == 0
  | .desClr => f.flags == 0 && f.len == 0 && f.a == 0 && f.b == 0 && f.c == 0 && f.d == 0
  | .bfKey => f.flags == 0 && f.b == 0 && f.c == 0 && f.d == 0
  | .bfEnc => f.flags == 0 && f.len == 0 && f.c == 0 && f.d == 0
  | .bfDec => f.flags == 0 && f.len == 0 && f.c == 0 && f.d == 0
  | .bfBcrypt => flagsReservedZero f.flags
  | .bfClr => f.flags == 0 && f.len == 0 && f.a == 0 && f.b == 0 && f.c == 0 && f.d == 0

/-- The command with the operands its fields hold (`30_encoding.md` R48, R52). -/
def Opcode.command (f : Descriptor) : Opcode → Instr
  | .desKey => .desKey f.a f.len
  | .desEnc => .desEnc f.a f.b
  | .desDec => .desDec f.a f.b
  | .desCrypt => .desCrypt f.a f.c f.d
  | .desClr => .desClr
  | .bfKey => .bfKey f.a f.len
  | .bfEnc => .bfEnc f.a f.b
  | .bfDec => .bfDec f.a f.b
  | .bfBcrypt => .bfBcrypt f.a f.len f.b f.c f.d f.flags
  | .bfClr => .bfClr

/-- Why a descriptor selects no command. Both reasons are the one fault IllegalCommand (`30_encoding.md`
R50); the distinction is the model's and cannot be observed. -/
inductive DecodeError where
  /-- an `OPC` value other than the ten defined -/
  | undefinedOpcode (opc : Byte)
  /-- a defined `OPC` with a nonzero must-be-zero field -/
  | reservedFieldNonzero (opc : Opcode)
deriving DecidableEq, Repr

/-- The command the fields of a descriptor select, or why they select none (`30_encoding.md` R50). -/
def decodeFields (f : Descriptor) : Except DecodeError Instr :=
  match opcodeOf f.opc with
  | none => .error (.undefinedOpcode f.opc)
  | some o => if o.reservedZero f then .ok (o.command f) else .error (.reservedFieldNonzero o)

/-- Every one of the 2^160 descriptor values selects one command or none (`30_encoding.md` R51). -/
def decode (w : CommandWord) : Except DecodeError Instr := decodeFields (Descriptor.ofBits w)

/-- The mask of a row of the table of `30_encoding.md` R49, as printed there. -/
def Opcode.mask : Opcode → CommandWord
  | .desKey => 0xFFFFFFFFFFFFFFFFFFFFFFFF000000000000FFFF
  | .desEnc => 0xFFFFFFFFFFFFFFFF0000000000000000FFFFFFFF
  | .desDec => 0xFFFFFFFFFFFFFFFF0000000000000000FFFFFFFF
  | .desCrypt => 0x0000000000000000FFFFFFFF00000000FFFFFFFF
  | .desClr => 0xFFFFFFFFFFFFFFFFFFFFFFFFFFFFFFFFFFFFFFFF
  | .bfKey => 0xFFFFFFFFFFFFFFFFFFFFFFFF000000000000FFFF
  | .bfEnc => 0xFFFFFFFFFFFFFFFF0000000000000000FFFFFFFF
  | .bfDec => 0xFFFFFFFFFFFFFFFF0000000000000000FFFFFFFF
  | .bfBcrypt => 0x000000000000000000000000000000000000FEFF
  | .bfClr => 0xFFFFFFFFFFFFFFFFFFFFFFFFFFFFFFFFFFFFFFFF

/-- The match value of a row of the table of `30_encoding.md` R49, as printed there. -/
def Opcode.pattern : Opcode → CommandWord
  | .desKey => 0x0000000000000000000000000000000000000001
  | .desEnc => 0x0000000000000000000000000000000000000002
  | .desDec => 0x0000000000000000000000000000000000000003
  | .desCrypt => 0x0000000000000000000000000000000000000004
  | .desClr => 0x0000000000000000000000000000000000000005
  | .bfKey => 0x0000000000000000000000000000000000000011
  | .bfEnc => 0x0000000000000000000000000000000000000012
  | .bfDec => 0x0000000000000000000000000000000000000013
  | .bfBcrypt => 0x0000000000000000000000000000000000000014
  | .bfClr => 0x0000000000000000000000000000000000000015

/-- A descriptor selects the command of a row when `d & mask = match` (`30_encoding.md` R49). -/
def Opcode.selectedBy (w : CommandWord) (o : Opcode) : Bool := w &&& o.mask == o.pattern

/-- The opcode of a command. -/
def Instr.opcode : Instr → Opcode
  | .desKey _ _ => .desKey
  | .desEnc _ _ => .desEnc
  | .desDec _ _ => .desDec
  | .desCrypt _ _ _ => .desCrypt
  | .desClr => .desClr
  | .bfKey _ _ => .bfKey
  | .bfEnc _ _ => .bfEnc
  | .bfDec _ _ => .bfDec
  | .bfBcrypt _ _ _ _ _ _ => .bfBcrypt
  | .bfClr => .bfClr

/-- The seven fields of a command's descriptor; the fields the command does not use are zero
(`30_encoding.md` R48, R52). -/
def Instr.fields : Instr → Descriptor
  | .desKey a len => ⟨0x01, 0, len, a, 0, 0, 0⟩
  | .desEnc a b => ⟨0x02, 0, 0, a, b, 0, 0⟩
  | .desDec a b => ⟨0x03, 0, 0, a, b, 0, 0⟩
  | .desCrypt a iterations salt => ⟨0x04, 0, 0, a, 0, iterations, salt⟩
  | .desClr => ⟨0x05, 0, 0, 0, 0, 0, 0⟩
  | .bfKey a len => ⟨0x11, 0, len, a, 0, 0, 0⟩
  | .bfEnc a b => ⟨0x12, 0, 0, a, b, 0, 0⟩
  | .bfDec a b => ⟨0x13, 0, 0, a, b, 0, 0⟩
  | .bfBcrypt key len salt cost out flags => ⟨0x14, flags, len, key, salt, cost, out⟩
  | .bfClr => ⟨0x15, 0, 0, 0, 0, 0, 0⟩

/-- The descriptor of a command. -/
def encode (i : Instr) : CommandWord := i.fields.toBits

/-- The descriptor whose bits are `w`, every bit from `nbits` up being zero: the core sees the 160-bit value
(`30_encoding.md` R45; log entry 10). -/
def tableWord (nbits w : Nat) : CommandWord := BitVec.ofNat 160 (w % 2 ^ nbits)

/-- The instruction the decoder reads from a table row's bits. -/
def decodeTableWord (nbits w : Nat) : Option Instr := (decode (tableWord nbits w)).toOption

end Sys2Proof
end

