-- ==== Sys2Proof/Machine/State.lean ====
section
/-! DEFINITION. The state of the core (`10_state.md`), the host actions and returned values of its ports
(`70_reset_and_hazards.md` R171), and the state after reset (R20, R160). -/

namespace Sys2Proof.Machine

/-- The contents of `BUF` as (address, byte) pairs: addresses strictly rising, no entry equal to what an
unlisted address reads as (log entry 11). -/
abbrev Memory := List Host.Cell

/-- What an unlisted byte of `BUF` reads as: 0, the value reset gives every byte (`10_state.md` R20,
`93_implementation_defined.md` U14). -/
abbrev unlistedByte : Byte := 0

/-- The canonical form of a memory: equal memories are equal lists. -/
abbrev Memory.wf (m : Memory) : Prop :=
  m.Pairwise (fun c d => c.1 < d.1) ∧ ∀ c ∈ m, c.2 ≠ unlistedByte

/-- The Blowfish key state: the P-array and the four S-boxes (`10_state.md` R13). -/
structure BfKey where
  /-- `BP[0..17]` -/
  bp : Vector Word 18
  /-- `BS[0..3][0..255]` -/
  bs : Vector (Vector Word 256) 4
deriving DecidableEq, Repr

/-- The erased Blowfish key state, every word 0 (`10_state.md` R13). -/
def bfKeyZero : BfKey := ⟨Vector.replicate 18 0, Vector.replicate 4 (Vector.replicate 256 0)⟩

/-- How a command ends (`60_exceptions.md` R140). `nullArgument` and `argumentFormat` have code points and
are never raised by the core (R145). -/
inductive Completion where
  | ok
  | nullArgument
  | argumentFormat
  | rangeViolation
  | lengthViolation
  | invalidState
  | illegalCommand
deriving DecidableEq, Repr

/-- A host action (`70_reset_and_hazards.md` R171). -/
inductive HostAction where
  /-- `HostWrite(addr, byte)` (`20_memory.md` R42) -/
  | write (addr : Nat) (byte : Byte)
  /-- `HostRead(addr)` (`20_memory.md` R42) -/
  | read (addr : Nat)
  /-- `Issue(descriptor)`: any 160-bit value -/
  | issue (descriptor : CommandWord)
  /-- `ReadStatus()` -/
  | readStatus
  /-- `Reset()` between commands (R160) -/
  | reset
  /-- `Issue(descriptor)` and then `Reset()` while that command executes: the command is abandoned (R160) -/
  | resetDuring (descriptor : CommandWord)
deriving DecidableEq, Repr

/-- A value the core returns to the host (`70_reset_and_hazards.md` R171, column "Returns"). -/
inductive HostReturn where
  /-- the 4-bit completion code of a command, at the command port -/
  | code (c : BitVec 4)
  /-- a byte of `BUF`, at the buffer port -/
  | byte (b : Byte)
  /-- the 32-bit `STATUS`, at the status port -/
  | status (w : Word)
deriving DecidableEq, Repr

/-- Why the model stops. No fault of the core is here: the core reports its faults by a completion code
and goes on (`60_exceptions.md` R146), so each of them is a next state (log entry 4). -/
inductive Fault where
  /-- Raised by the step for a host read or write at an address outside `[0, BUF_SIZE)`, which the platform
  rejects before it reaches the core (`20_memory.md` R42, `93_implementation_defined.md` U9, treatment
  `refuse`). Safe: nothing is claimed of such a run (log entry 5). -/
  | hostAddressOutsideBuf (addr : Nat)
deriving DecidableEq, Repr

/-- Why the model has no meaning for an instruction. -/
inductive Refusal where
  /-- Raised by `exec` for an instruction without a meaning; no arm does so. Safe: nothing is claimed. -/
  | notModelled (mnemonic : String)
deriving DecidableEq, Repr

/-- The state of the core, and the host's side of its ports. `STATUS` is computed from `dkv`, `bfv` and
`last` (`statusWord`, log entry 8). -/
structure State where
  /-- `DK[0..15]`, the DES key schedule (R10) -/
  dk : Vector Subkey 16
  /-- `DKV`, the DES key valid flag (R11) -/
  dkv : Bool
  /-- `L`, working register, 0 between commands (R12; log entry 7) -/
  l : Word
  /-- `R`, working register (R12) -/
  r : Word
  /-- `C`, working register (R12) -/
  c : KeyHalf
  /-- `D`, working register (R12) -/
  d : KeyHalf
  /-- `SR`, working register (R12) -/
  sr : Salt
  /-- `BP[0..17]` and `BS[0..3][0..255]`, the Blowfish P-array and S-boxes (R13) -/
  bf : BfKey
  /-- `BFV`, the Blowfish key valid flag (R13) -/
  bfv : Bool
  /-- `XL`, working register (R13) -/
  xl : Word
  /-- `XR`, working register (R13) -/
  xr : Word
  /-- `STATUS.LAST`, the completion code of the last completed command (R15) -/
  last : BitVec 4
  /-- `BUF` (R16) -/
  buf : Memory
  /-- the host actions still to happen, the next one first (the model's own; log entry 2) -/
  host : List HostAction
  /-- the values returned to the host so far, newest first (the model's own; log entry 3) -/
  returned : List HostReturn
deriving DecidableEq, Repr

/-- The state after reset: every register, flag and byte of `BUF` is 0 (`10_state.md` R20,
`70_reset_and_hazards.md` R160); no host action is pending and nothing has been returned. -/
def State.reset : State where
  dk := Vector.replicate 16 0
  dkv := false
  l := 0
  r := 0
  c := 0
  d := 0
  sr := 0
  bf := bfKeyZero
  bfv := false
  xl := 0
  xr := 0
  last := 0
  buf := []
  host := []
  returned := []

end Sys2Proof.Machine
end

