-- ==== Sys2Proof/Machine/Params.lean ====
section
/-! DEFINITION. The parameters of the core whose values the spec fixes (`00_scope.md` R4). -/

namespace Sys2Proof.Machine

/-- `BLOCK_BYTES`: the size of a DES or Blowfish block (R4). -/
def blockBytes : Nat := 8

/-- `DES_KEY_BYTES` (R4). -/
def desKeyBytes : Nat := 8

/-- `BF_MIN_KEY` (R4). -/
def bfMinKey : Nat := 1

/-- `BF_MAX_KEY` (R4, `90_conflicts.md` C5). -/
def bfMaxKey : Nat := 72

/-- `BCRYPT_SALT_BYTES` (R4). -/
def bcryptSaltBytes : Nat := 16

/-- `BCRYPT_MIN_COST` (R4). -/
def bcryptMinCost : Int := 4

/-- `BCRYPT_MAX_COST` (R4). -/
def bcryptMaxCost : Int := 31

/-- `BCRYPT_LENGTH`: the bytes of a digest that are written (R4). -/
def bcryptLength : Nat := 23

/-- The greatest salt that fits `DES_SALT_BITS` = 24 bits (R4, `43_des_crypt.md` R90). -/
def desMaxSalt : Int := 0xFFFFFF

end Sys2Proof.Machine
end

