-- ==== Sys2Proof/Machine/Blowfish.lean ====
section
/-! DEFINITION. The Blowfish data path, key schedule and bcrypt digest (`44_bf_block.md`,
`45_bf_key_schedule.md`, `46_bf_bcrypt.md`) as functions of their arguments. -/

namespace Sys2Proof.Machine

/-- `BS[b][i]` (`10_state.md` R13). -/
def bfSbox (k : BfKey) (b : Fin 4) (i : Byte) : Word := k.bs[b][i.toNat]'i.isLt

/-- The F-function (`44_bf_block.md` R101); addition is modulo 2^32. -/
def bfF (k : BfKey) (x : Word) : Word :=
  let a := x.extractLsb' 24 8
  let b := x.extractLsb' 16 8
  let c := x.extractLsb' 8 8
  let d := x.extractLsb' 0 8
  ((bfSbox k 0 a + bfSbox k 1 b) ^^^ bfSbox k 2 c) + bfSbox k 3 d

/-- One round with the P-array word `p`, the swap included (`44_bf_block.md` R102). -/
def bfRound (k : BfKey) (x : Word × Word) (p : Word) : Word × Word :=
  let xl := x.1 ^^^ p
  (x.2 ^^^ bfF k xl, xl)

/-- `BF_Encipher`: rounds with `BP[0..15]`, the last swap undone, then `BP[16]` and `BP[17]`
(`44_bf_block.md` R102). -/
def bfEncipher (k : BfKey) (x : Word × Word) : Word × Word :=
  let y := ((k.bp.toList.take 16).foldl (bfRound k) x).swap
  (y.1 ^^^ k.bp[17], y.2 ^^^ k.bp[16])

/-- `BF_Decipher`: rounds with `BP[17]` down to `BP[2]`, the last swap undone, then `BP[1]` and `BP[0]`
(`44_bf_block.md` R103). -/
def bfDecipher (k : BfKey) (x : Word × Word) : Word × Word :=
  let y := ((k.bp.toList.reverse.take 16).foldl (bfRound k) x).swap
  (y.1 ^^^ k.bp[0], y.2 ^^^ k.bp[1])

/-- One byte extended to 32 bits, with the sign only under `signext` (`45_bf_key_schedule.md` R111). -/
def extendByte (signext : Bool) (b : Byte) : Word := if signext then sext32 b else zext32 b

/-- The word made of the four bytes from index `j` of the byte string read cyclically
(`45_bf_key_schedule.md` R111). -/
def streamWord (data : List Byte) (signext : Bool) (j : Nat) : Word :=
  (List.range 4).foldl
    (fun t q => (t <<< 8) ||| extendByte signext (data.getD ((j + q) % data.length) 0)) 0

/-- `StreamWords(data, n, signext)`: word w takes the bytes 4w, ..., 4w + 3 of the cyclic string
(`45_bf_key_schedule.md` R111; log entry 12). -/
def streamWords (data : List Byte) (n : Nat) (signext : Bool) : Vector Word n :=
  Vector.ofFn fun w => streamWord data signext (4 * w.val)

/-- What carries over from one block of an expansion to the next: the key state as it is now, the block and
the salt index (`45_bf_key_schedule.md` R112). -/
structure ExpandChain where
  key : BfKey
  xl : Word
  xr : Word
  /-- the salt index `j`, 0 or 2; its addition is modulo 4 -/
  j : Fin 4
deriving DecidableEq, Repr

/-- The next block of the chain: salt words XORed in, then enciphered under the current key state
(`45_bf_key_schedule.md` R112). -/
def chainBlock (sw : Vector Word 4) (st : ExpandChain) : ExpandChain :=
  let x := bfEncipher st.key (st.xl ^^^ sw[st.j], st.xr ^^^ sw[st.j + 1])
  { st with xl := x.1, xr := x.2, j := st.j + 2 }

/-- Block i of the P-array loop (`45_bf_key_schedule.md` R112). -/
def expandP (sw : Vector Word 4) (st : ExpandChain) (i : Nat) : ExpandChain :=
  let st := chainBlock sw st
  { st with
    key := { st.key with
      bp := (st.key.bp.setIfInBounds (2 * i) st.xl).setIfInBounds (2 * i + 1) st.xr } }

/-- Block i of the loop of S-box b (`45_bf_key_schedule.md` R112). -/
def expandS (sw : Vector Word 4) (b : Fin 4) (st : ExpandChain) (i : Nat) : ExpandChain :=
  let st := chainBlock sw st
  { st with
    key := { st.key with
      bs := st.key.bs.set b
        ((st.key.bs[b].setIfInBounds (2 * i) st.xl).setIfInBounds (2 * i + 1) st.xr) } }

/-- `BF_Expand(KW, SW)` (`45_bf_key_schedule.md` R112): 18 key words XORed into `BP`, then 9 blocks fill
`BP` and 4 x 128 blocks fill `BS`, each under the state as already replaced. -/
def bfExpand (k : BfKey) (kw : Vector Word 18) (sw : Vector Word 4) : BfKey :=
  let mixed : BfKey := { k with bp := Vector.zipWith (· ^^^ ·) k.bp kw }
  let st := (List.range 9).foldl (expandP sw) ⟨mixed, 0, 0, 0⟩
  let st := (List.finRange 4).foldl (fun st b => (List.range 128).foldl (expandS sw b) st) st
  st.key

/-- Four salt words of zero: no salt (`45_bf_key_schedule.md` R112). -/
def noSalt : Vector Word 4 := Vector.replicate 4 0

/-- The key state of `BF.KEY` (`45_bf_key_schedule.md` R113). -/
def bfSchedule (key : List Byte) : BfKey := bfExpand bfInitKey (streamWords key 18 false) noSalt

/-- One repetition of the expensive setup: the key, then the salt used as a key (`46_bf_bcrypt.md` R120). -/
def eksRepeat (kw skw : Vector Word 18) (k : BfKey) : BfKey :=
  bfExpand (bfExpand k kw noSalt) skw noSalt

/-- `EksSetup(KW, salt, c)`: the salted expansion, then 2^c repetitions (`46_bf_bcrypt.md` R120). -/
def eksSetup (kw : Vector Word 18) (salt : List Byte) (cost : Nat) : BfKey :=
  (eksRepeat kw (streamWords salt 18 false))^[2 ^ cost]
    (bfExpand bfInitKey kw (streamWords salt 4 false))

/-- The text enciphered 64 times, each block on its own: 24 bytes (`46_bf_bcrypt.md` R122). -/
def bcryptFull (k : BfKey) : List Byte :=
  ((List.map (bfEncipher k))^[64] bcryptText).flatMap fun t => bytesBe 4 t.1 ++ bytesBe 4 t.2

/-- `BcryptDigest()`: the first 23 of the 24 bytes (`46_bf_bcrypt.md` R122). -/
def bcryptDigest (k : BfKey) : List Byte := (bcryptFull k).take bcryptLength

/-- The digest of a key, salt and cost (`46_bf_bcrypt.md` R123, R124). -/
def bcrypt (key salt : List Byte) (cost : Nat) (signbug : Bool) : List Byte :=
  bcryptDigest (eksSetup (streamWords key 18 signbug) salt cost)

end Sys2Proof.Machine
end

