-- ==== Sys2Proof/Machine/Flags.lean ====
section
/-! DEFINITION. The completion codes and the status register (`60_exceptions.md` R140, `10_state.md` R15).
No operation of the core sets a flag from its result (`48_control_memory_system.md` R139): the flags are
the two key-valid flags and `LAST`. -/

namespace Sys2Proof.Machine

/-- The 4-bit completion code (`60_exceptions.md` R140). -/
def completionCode : Completion → BitVec 4
  | .ok => 0
  | .nullArgument => 1
  | .argumentFormat => 2
  | .rangeViolation => 3
  | .lengthViolation => 4
  | .invalidState => 5
  | .illegalCommand => 6

/-- The completion codes the core returns (`60_exceptions.md` R140, R145): 1, 2 and 7 to 15 are never
returned. -/
def completionsReturned : List Completion :=
  [.ok, .rangeViolation, .lengthViolation, .invalidState, .illegalCommand]

/-- The 32-bit `STATUS`: `DKV` in bit 0, `BFV` in bit 1, `LAST` in bits 7:4, every other bit 0
(`10_state.md` R15). -/
def statusWord (s : State) : Word :=
  let flags : BitVec 2 := cat 2 (BitVec.ofBool s.bfv) (BitVec.ofBool s.dkv)
  let low : BitVec 4 := cat 4 (0 : BitVec 2) flags
  cat 32 (0 : BitVec 24) (cat 8 s.last low)

end Sys2Proof.Machine
end

