-- ==== Sys2Proof/Machine/Operands.lean ====
section
/-! DEFINITION. The operand forms: regions at an absolute offset (`48_control_memory_system.md` R137) and
the numeric operands with their bounds (`60_exceptions.md` R141, R142). -/

namespace Sys2Proof.Machine

/-- `CheckRegion(off, n)` passes: the offset is not negative and `off + n <= BUF_SIZE`, the sum in unbounded
integers (`20_memory.md` R33). -/
def regionOk (off : Word) (n : Nat) : Bool :=
  !decide (sint off < 0) && decide ((sint off).toNat + n ≤ Config.bufSize)

/-- The address of the first byte of a region whose check passed (`48_control_memory_system.md` R137). -/
def regionStart (off : Word) : Nat := (sint off).toNat

/-- `DES.KEY`'s key length is exactly 8 (`60_exceptions.md` R142). -/
def desKeyLenOk (len : BitVec 16) : Bool := uint len == desKeyBytes

/-- A Blowfish key length inside `BF_MIN_KEY..BF_MAX_KEY` (`60_exceptions.md` R141). -/
def bfKeyLenOk (len : BitVec 16) : Bool := decide (bfMinKey ≤ uint len) && decide (uint len ≤ bfMaxKey)

/-- `DES.CRYPT`'s iteration count is not negative (`60_exceptions.md` R141). -/
def iterationsOk (iterations : Word) : Bool := decide (0 ≤ sint iterations)

/-- `DES.CRYPT`'s salt is not negative and fits 24 bits (`60_exceptions.md` R141). -/
def saltOk (salt : Word) : Bool := decide (0 ≤ sint salt) && decide (sint salt ≤ desMaxSalt)

/-- `BF.BCRYPT`'s cost is inside `BCRYPT_MIN_COST..BCRYPT_MAX_COST` (`60_exceptions.md` R141). -/
def costOk (cost : Word) : Bool :=
  decide (bcryptMinCost ≤ sint cost) && decide (sint cost ≤ bcryptMaxCost)

/-- The number of passes of `DES.CRYPT` (`43_des_crypt.md` R91). -/
def iterationCount (iterations : Word) : Nat := (sint iterations).toNat

/-- The salt mask `SR = bitrev24(D[23:0])` (`43_des_crypt.md` R90, R91). -/
def saltMask (salt : Word) : Salt := bitrev24 (salt.extractLsb' 0 24)

/-- The cost of `BF.BCRYPT` as a number (`46_bf_bcrypt.md` R123). -/
def costValue (cost : Word) : Nat := (sint cost).toNat

/-- `SIGNBUG`, bit 0 of `FLAGS` (`46_bf_bcrypt.md` R124). -/
def signBug (flags : Byte) : Bool := flags.getLsbD 0

end Sys2Proof.Machine
end

