-- ==== Sys2Proof/Machine/Ops.lean ====
section
/-! DEFINITION. The shared operations: bytes of `BUF`, completion and faults, key state, host port. -/

namespace Sys2Proof.Machine

/-! ## Buffer memory -/

/-- `BUF[a]`: the byte last written there, or 0 from reset (`20_memory.md` R37). -/
def Memory.read : Memory → Nat → Byte
  | [], _ => unlistedByte
  | (b, v) :: m, a => if b = a then v else Memory.read m a

/-- `BUF[a] <- v`, keeping the canonical form: writing what an unlisted address reads as removes the
entry (log entry 11). -/
def Memory.write : Memory → Nat → Byte → Memory
  | [], a, v => if v = unlistedByte then [] else [(a, v)]
  | (b, w) :: m, a, v =>
    if a < b then (if v = unlistedByte then (b, w) :: m else (a, v) :: (b, w) :: m)
    else if a = b then (if v = unlistedByte then m else (a, v) :: m)
    else (b, w) :: Memory.write m a v

/-- `MemRead(addr, n)`: n bytes, lowest address first (`00_scope.md` 5.4). -/
def Memory.readBytes (m : Memory) (addr n : Nat) : List Byte :=
  (List.range n).map fun k => m.read (addr + k)

/-- `MemWrite(addr, n, bytes)`: `BUF[addr+k] <- bytes[k]` (`00_scope.md` 5.4). -/
def Memory.writeBytes : Memory → Nat → List Byte → Memory
  | m, _, [] => m
  | m, addr, b :: bytes => Memory.writeBytes (m.write addr b) (addr + 1) bytes

/-- The bytes of an input region, read whole before the command computes (`20_memory.md` R35). -/
def readRegion (s : State) (off : Word) (n : Nat) : List Byte :=
  s.buf.readBytes (regionStart off) n

/-- An output region written whole, the last act of a command on `BUF` (`20_memory.md` R35). -/
def writeRegion (off : Word) (bytes : List Byte) (s : State) : State :=
  { s with buf := s.buf.writeBytes (regionStart off) bytes }

/-! ## Completion and faults -/

/-- A command ends: its code goes to the command port and to `STATUS.LAST` (`60_exceptions.md` R140). -/
def complete (how : Completion) (s : State) : State :=
  { s with last := completionCode how, returned := .code (completionCode how) :: s.returned }

/-- Taking a fault: nothing but the code is left of the command and the core is ready for the next one
(`60_exceptions.md` R146). "Trap entry" is the whole of this; there is no handler, no saved state and no
return from it: "trap return" is the host issuing its next command (R150). -/
def raiseFault (f : Completion) (s : State) : State := complete f s

/-- The fault of the first check that fails (`60_exceptions.md` R147). -/
def firstFault : List (Bool × Completion) → Option Completion
  | [] => none
  | (passes, f) :: checks => if passes then firstFault checks else some f

/-- A command: its checks in order, all of them before its first write, then its effect and completion OK,
or the first fault and nothing else (`60_exceptions.md` R146, R147). -/
def runCommand (checks : List (Bool × Completion)) (effect : State → State) (s : State) :
    Host.Outcome State Fault Refusal :=
  match firstFault checks with
  | some f => .next (raiseFault f s)
  | none => .next (complete .ok (effect s))

/-- An illegal descriptor changes nothing but `STATUS.LAST` (`30_encoding.md` R50). -/
def illegalCommand (s : State) : Host.Outcome State Fault Refusal :=
  .next (raiseFault .illegalCommand s)

/-! ## Key state and working registers -/

/-- `DK[i] <- K[i]` for every i and `DKV <- 1` (`41_des_key_schedule.md` R80). -/
def loadDesKey (keys : Vector Subkey 16) (s : State) : State := { s with dk := keys, dkv := true }

/-- `DK[i] <- 0` for every i and `DKV <- 0` (`41_des_key_schedule.md` R81). -/
def eraseDesKey (s : State) : State := { s with dk := Vector.replicate 16 0, dkv := false }

/-- `BP`, `BS` written and `BFV <- 1` (`45_bf_key_schedule.md` R113). -/
def loadBfKey (k : BfKey) (s : State) : State := { s with bf := k, bfv := true }

/-- `BP[i] <- 0`, `BS[b][i] <- 0` and `BFV <- 0` (`45_bf_key_schedule.md` R114, `46_bf_bcrypt.md` R125). -/
def eraseBfKey (s : State) : State := { s with bf := bfKeyZero, bfv := false }

/-- `L <- 0; R <- 0` (`10_state.md` R12; log entry 7). -/
def clearLR (s : State) : State := { s with l := 0, r := 0 }

/-- `C <- 0; D <- 0` (`10_state.md` R12). -/
def clearCD (s : State) : State := { s with c := 0, d := 0 }

/-- `SR <- 0` (`10_state.md` R12). -/
def clearSR (s : State) : State := { s with sr := 0 }

/-- `XL <- 0; XR <- 0` (`10_state.md` R13). -/
def clearX (s : State) : State := { s with xl := 0, xr := 0 }

/-! ## The host's actions but `Issue` (`70_reset_and_hazards.md` R171) -/

/-- A host address the core can be reached at (`20_memory.md` R42). -/
def hostAddrOk (addr : Nat) : Bool := decide (addr + 1 ≤ Config.bufSize)

/-- `HostWrite(addr, byte)` (`20_memory.md` R42); outside `BUF` it does not reach the core (log entry 5). -/
def hostWrite (addr : Nat) (byte : Byte) (s : State) : Host.Outcome State Fault Refusal :=
  if hostAddrOk addr then .next { s with buf := s.buf.write addr byte }
  else .fault (.hostAddressOutsideBuf addr)

/-- `HostRead(addr)` (`20_memory.md` R42): returns the byte, changes nothing else (R37). -/
def hostRead (addr : Nat) (s : State) : Host.Outcome State Fault Refusal :=
  if hostAddrOk addr then .next { s with returned := .byte (s.buf.read addr) :: s.returned }
  else .fault (.hostAddressOutsideBuf addr)

/-- `ReadStatus()`: returns `STATUS`, no side effect (`10_state.md` R15). -/
def readStatus (s : State) : Host.Outcome State Fault Refusal :=
  .next { s with returned := .status (statusWord s) :: s.returned }

/-- `Reset()`: the core's state is the reset state (`70_reset_and_hazards.md` R160); what the host still
has to do and what it was given are the host's (log entry 9). -/
def resetCore (s : State) : State :=
  { State.reset with host := s.host, returned := s.returned }

/-- What the core does when the host presents nothing: it is idle and holds its state (`60_exceptions.md`
R155; log entry 6). -/
def idle (s : State) : Host.Outcome State Fault Refusal := .next s

end Sys2Proof.Machine
end

