-- ==== Sys2Proof/Machine/BfUnit.lean ====
section
/-! DEFINITION. The meanings of the five commands of the Blowfish unit. Each is its checks in the order of
`60_exceptions.md` R147 and its effect when all of them pass. -/

namespace Sys2Proof.Machine

/-- The pair of words a command reads at `off` (`44_bf_block.md` R100). -/
def readPair (s : State) (off : Word) : Word × Word :=
  let m := readRegion s off blockBytes
  (be 32 (m.take 4), be 32 (m.drop 4))

/-- The bytes of a pair of words (`44_bf_block.md` R100, R104). -/
def pairBytes (x : Word × Word) : List Byte := bytesBe 4 x.1 ++ bytesBe 4 x.2

/-- What `BF.KEY` does when its checks pass (`45_bf_key_schedule.md` R113). -/
def bfKeyEffect (a : Word) (len : BitVec 16) (s : State) : State :=
  clearX (loadBfKey (bfSchedule (readRegion s a (uint len))) s)

/-- What `BF.ENC` does when its checks pass (`44_bf_block.md` R104). -/
def bfEncEffect (a b : Word) (s : State) : State :=
  clearX (writeRegion b (pairBytes (bfEncipher s.bf (readPair s a))) s)

/-- What `BF.DEC` does when its checks pass (`44_bf_block.md` R105). -/
def bfDecEffect (a b : Word) (s : State) : State :=
  clearX (writeRegion b (pairBytes (bfDecipher s.bf (readPair s a))) s)

/-- What `BF.BCRYPT` does when its checks pass: key and salt are read, the digest written, and the key
state, which held the command's own instance, destroyed (`46_bf_bcrypt.md` R123, R125). -/
def bfBcryptEffect (key : Word) (len : BitVec 16) (salt cost out : Word) (flags : Byte) (s : State) :
    State :=
  clearX (eraseBfKey (writeRegion out
    (bcrypt (readRegion s key (uint len)) (readRegion s salt bcryptSaltBytes) (costValue cost)
      (signBug flags)) s))

/-- `BF.KEY a, len` (`45_bf_key_schedule.md` R113). -/
def execBfKey (a : Word) (len : BitVec 16) (s : State) : Host.Outcome State Fault Refusal :=
  runCommand
    [(bfKeyLenOk len, .rangeViolation), (regionOk a (uint len), .rangeViolation)]
    (bfKeyEffect a len) s

/-- `BF.ENC a, b` (`44_bf_block.md` R104). -/
def execBfEnc (a b : Word) (s : State) : Host.Outcome State Fault Refusal :=
  runCommand
    [(s.bfv, .invalidState), (regionOk a blockBytes, .rangeViolation),
      (regionOk b blockBytes, .rangeViolation)]
    (bfEncEffect a b) s

/-- `BF.DEC a, b` (`44_bf_block.md` R105). -/
def execBfDec (a b : Word) (s : State) : Host.Outcome State Fault Refusal :=
  runCommand
    [(s.bfv, .invalidState), (regionOk a blockBytes, .rangeViolation),
      (regionOk b blockBytes, .rangeViolation)]
    (bfDecEffect a b) s

/-- `BF.BCRYPT key, len, salt, cost, out, flags` (`46_bf_bcrypt.md` R123): it needs no loaded key and never
raises InvalidState. -/
def execBfBcrypt (key : Word) (len : BitVec 16) (salt cost out : Word) (flags : Byte) (s : State) :
    Host.Outcome State Fault Refusal :=
  runCommand
    [(bfKeyLenOk len, .rangeViolation), (costOk cost, .rangeViolation),
      (regionOk key (uint len), .rangeViolation), (regionOk salt bcryptSaltBytes, .rangeViolation),
      (regionOk out bcryptLength, .rangeViolation)]
    (bfBcryptEffect key len salt cost out flags) s

/-- `BF.CLR` (`45_bf_key_schedule.md` R114): legal whether a key is loaded or not. -/
def execBfClr (s : State) : Host.Outcome State Fault Refusal := runCommand [] eraseBfKey s

end Sys2Proof.Machine
end

