-- ==== Sys2Proof/Machine/Des.lean ====
section
/-! DEFINITION. The DES data path and key schedule (`40_des_primitives.md`, `41_des_key_schedule.md`,
`42_des_block.md`, `43_des_crypt.md`) as functions of their arguments. -/

namespace Sys2Proof.Machine

/-- `SaltSwap(x, sr)`: exchanges, for every bit set in `sr`, the corresponding bits of the two 24-bit
halves of `x` (`40_des_primitives.md` R64). -/
def saltSwap (x : Subkey) (sr : Salt) : Subkey :=
  let hi := x.extractLsb' 24 24
  let lo := x.extractLsb' 0 24
  let t := (hi ^^^ lo) &&& sr
  cat 48 (hi ^^^ t) (lo ^^^ t)

/-- The lookup of a 6-bit group in an S-box: the outer bits select the row, the inner four the column
(`40_des_primitives.md` R65). -/
def sboxLookup (box : Vector (BitVec 4) 64) (g : BitVec 6) : BitVec 4 :=
  let row : BitVec 2 := cat 2 (BitVec.ofBool (g.getLsbD 5)) (BitVec.ofBool (g.getLsbD 0))
  let col : BitVec 4 := g.extractLsb' 1 4
  let index : BitVec 6 := cat 6 row col
  box[index.toNat]'index.isLt

/-- Group k of the 48 bits, k = 0..7, most significant group first (`40_des_primitives.md` R65, where k runs
from 1). -/
def sboxGroup (y : Subkey) (k : Nat) : BitVec 6 := y.extractLsb' (42 - 6 * k) 6

/-- The eight 4-bit outputs concatenated, S-box 1's most significant (`40_des_primitives.md` R65). -/
def substitute (y : Subkey) : Word :=
  desSboxes.zipIdx.foldl
    (fun s box => (s <<< 4) ||| (sboxLookup box.1 (sboxGroup y box.2)).setWidth 32) 0

/-- The round function `F(R, K, sr)` (`40_des_primitives.md` R68). -/
def desF (r : Word) (k : Subkey) (sr : Salt) : Word :=
  permute 32 (substitute (saltSwap (permute 48 r tableE) sr ^^^ k)) tableP

/-- `Round(L, R, K, sr) = (R, L ^ F(R, K, sr))` (`40_des_primitives.md` R69). -/
def desRound (sr : Salt) (lr : Word × Word) (k : Subkey) : Word × Word :=
  (lr.2, lr.1 ^^^ desF lr.2 k sr)

/-- Rounds with the given subkeys, the first of the list first. -/
def desRounds (sr : Salt) (keys : List Subkey) (lr : Word × Word) : Word × Word :=
  keys.foldl (desRound sr) lr

/-- The initial permutation splits the block into `L` and `R` (`40_des_primitives.md` R61). -/
def initialHalves (v : Block) : Word × Word :=
  let p : Block := permute 64 v tableIP
  (p.extractLsb' 32 32, p.extractLsb' 0 32)

/-- The output stage: `FP` applied to the halves in swapped order (`40_des_primitives.md` R62, R70). -/
def outputBlock (lr : Word × Word) : Block :=
  permute 64 (cat 64 lr.2 lr.1) tableFP

/-- Encipherment of one block: rounds i = 0..15, no salt (`42_des_block.md` R85). -/
def desEncipher (dk : Vector Subkey 16) (v : Block) : Block :=
  outputBlock (desRounds 0 dk.toList (initialHalves v))

/-- Decipherment of one block: rounds i = 15 downto 0 (`42_des_block.md` R86). -/
def desDecipher (dk : Vector Subkey 16) (v : Block) : Block :=
  outputBlock (desRounds 0 dk.toList.reverse (initialHalves v))

/-- One pass of `DES.CRYPT`: sixteen salted rounds, then the halves are swapped (`43_des_crypt.md` R91). -/
def cryptPass (dk : Vector Subkey 16) (sr : Salt) (lr : Word × Word) : Word × Word :=
  (desRounds sr dk.toList lr).swap

/-- The salted iterated encipherment: the passes, a final swap, the output stage (`43_des_crypt.md` R91). -/
def desCryptBlock (dk : Vector Subkey 16) (iterations : Nat) (sr : Salt) (v : Block) : Block :=
  outputBlock ((cryptPass dk sr)^[iterations] (initialHalves v)).swap

/-- Both halves of the key after the rotations of rounds 0..i, which accumulate (`41_des_key_schedule.md`
R76). -/
def rotated (half : KeyHalf) (i : Nat) : KeyHalf := (tableROT.take (i + 1)).foldl rol28 half

/-- `DesSchedule`: the sixteen subkeys of the 64-bit key `k` (`41_des_key_schedule.md` R75 to R78). -/
def desSchedule (k : Block) : Vector Subkey 16 :=
  let cd : BitVec 56 := permute 56 k tablePC1
  let c : KeyHalf := cd.extractLsb' 28 28
  let d : KeyHalf := cd.extractLsb' 0 28
  Vector.ofFn fun i =>
    permute 48 (cat 56 (rotated c i.val) (rotated d i.val)) tablePC2

end Sys2Proof.Machine
end

