-- ==== Sys2Proof/Machine/DesUnit.lean ====
section
/-! DEFINITION. The meanings of the five commands of the DES unit. Each is its checks in the order of
`60_exceptions.md` R147 and its effect when all of them pass. -/

namespace Sys2Proof.Machine

/-- The block a command reads at `off` (`20_memory.md` R32, `40_des_primitives.md` R60). -/
def readBlock (s : State) (off : Word) : Block := be 64 (readRegion s off blockBytes)

/-- What `DES.KEY` does when its checks pass (`41_des_key_schedule.md` R80). -/
def desKeyEffect (a : Word) (s : State) : State :=
  clearCD (loadDesKey (desSchedule (be 64 (readRegion s a desKeyBytes))) s)

/-- What `DES.ENC` does when its checks pass (`42_des_block.md` R85). -/
def desEncEffect (a b : Word) (s : State) : State :=
  clearLR (writeRegion b (bytesBe 8 (desEncipher s.dk (readBlock s a))) s)

/-- What `DES.DEC` does when its checks pass (`42_des_block.md` R86). -/
def desDecEffect (a b : Word) (s : State) : State :=
  clearLR (writeRegion b (bytesBe 8 (desDecipher s.dk (readBlock s a))) s)

/-- What `DES.CRYPT` does when its checks pass (`43_des_crypt.md` R91). -/
def desCryptEffect (a iterations salt : Word) (s : State) : State :=
  clearSR (clearLR (writeRegion a
    (bytesBe 8 (desCryptBlock s.dk (iterationCount iterations) (saltMask salt) (readBlock s a))) s))

/-- `DES.KEY a, len` (`41_des_key_schedule.md` R80): the length is checked before the region. -/
def execDesKey (a : Word) (len : BitVec 16) (s : State) : Host.Outcome State Fault Refusal :=
  runCommand
    [(desKeyLenOk len, .lengthViolation), (regionOk a desKeyBytes, .rangeViolation)]
    (desKeyEffect a) s

/-- `DES.ENC a, b` (`42_des_block.md` R85). -/
def execDesEnc (a b : Word) (s : State) : Host.Outcome State Fault Refusal :=
  runCommand
    [(s.dkv, .invalidState), (regionOk a blockBytes, .rangeViolation),
      (regionOk b blockBytes, .rangeViolation)]
    (desEncEffect a b) s

/-- `DES.DEC a, b` (`42_des_block.md` R86). -/
def execDesDec (a b : Word) (s : State) : Host.Outcome State Fault Refusal :=
  runCommand
    [(s.dkv, .invalidState), (regionOk a blockBytes, .rangeViolation),
      (regionOk b blockBytes, .rangeViolation)]
    (desDecEffect a b) s

/-- `DES.CRYPT a, iterations, salt` (`43_des_crypt.md` R91). -/
def execDesCrypt (a iterations salt : Word) (s : State) : Host.Outcome State Fault Refusal :=
  runCommand
    [(s.dkv, .invalidState), (iterationsOk iterations, .rangeViolation),
      (saltOk salt, .rangeViolation), (regionOk a blockBytes, .rangeViolation)]
    (desCryptEffect a iterations salt) s

/-- `DES.CLR` (`41_des_key_schedule.md` R81): legal whether a key is loaded or not. -/
def execDesClr (s : State) : Host.Outcome State Fault Refusal := runCommand [] eraseDesKey s

end Sys2Proof.Machine
end

