-- ==== Sys2Proof/Machine/Dispatch.lean ====
section
/-! DEFINITION. One arm a command: the transition of `Issue(descriptor)` for a descriptor that selects it
(`70_reset_and_hazards.md` R171). -/

namespace Sys2Proof.Machine

def exec (i : Instr) (s : State) : Host.Outcome State Fault Refusal :=
  match i with
  | .desKey a len => Sys2Proof.Machine.execDesKey a len s
  | .desEnc a b => Sys2Proof.Machine.execDesEnc a b s
  | .desDec a b => Sys2Proof.Machine.execDesDec a b s
  | .desCrypt a iterations salt => Sys2Proof.Machine.execDesCrypt a iterations salt s
  | .desClr => Sys2Proof.Machine.execDesClr s
  | .bfKey a len => Sys2Proof.Machine.execBfKey a len s
  | .bfEnc a b => Sys2Proof.Machine.execBfEnc a b s
  | .bfDec a b => Sys2Proof.Machine.execBfDec a b s
  | .bfBcrypt key len salt cost out flags => Sys2Proof.Machine.execBfBcrypt key len salt cost out flags s
  | .bfClr => Sys2Proof.Machine.execBfClr s

end Sys2Proof.Machine
end

