-- ==== Sys2Proof/Machine/HostPort.lean ====
section
/-! DEFINITION. The host port: which action comes next and what the core does with it
(`70_reset_and_hazards.md` R171). -/

namespace Sys2Proof.Machine

/-- The next host action and the state in which the core meets it (`10_state.md` R14: the next command is
whatever the host presents next; log entry 2). -/
def nextAction (s : State) : Option (HostAction × State) :=
  match s.host with
  | [] => none
  | a :: rest => some (a, { s with host := rest })

/-- `Issue(descriptor)`: the transition of the command it selects, or IllegalCommand (`30_encoding.md` R50). -/
def issue (w : CommandWord) (s : State) : Host.Outcome State Fault Refusal :=
  match decode w with
  | .ok i => exec i s
  | .error _ => illegalCommand s

/-- One host action (`70_reset_and_hazards.md` R171). A reset while a command executes abandons it: no code
is returned and nothing of it survives (R160). -/
def perform (a : HostAction) (s : State) : Host.Outcome State Fault Refusal :=
  match a with
  | .write addr byte => hostWrite addr byte s
  | .read addr => hostRead addr s
  | .issue w => issue w s
  | .readStatus => readStatus s
  | .reset => .next (resetCore s)
  | .resetDuring _ => .next (resetCore s)

end Sys2Proof.Machine
end

