-- ==== Sys2Proof/Machine/Step.lean ====
section
/-! DEFINITION. One step is the next host action (`70_reset_and_hazards.md` R171, R172): a command is one
atomic transition (`00_scope.md` R3). -/

namespace Sys2Proof.Machine

/-- One step: the next host action of the list, or the core is idle (log entries 2, 6). -/
def step (s : State) : Host.Outcome State Fault Refusal :=
  match nextAction s with
  | none => idle s
  | some (a, t) => perform a t

/-- The state in which the host's next action is to issue the descriptor that `nbits` and `w` give
(log entries 2, 10). -/
def State.withFetchWord (s : State) (nbits w : Nat) : State :=
  { s with host := .issue (tableWord nbits w) :: s.host }

end Sys2Proof.Machine
end

