-- ==== Sys2Proof/Safety.lean ====
section
/-! DEFINITION. What holds of the core between commands, and which host lists keep the run going. -/

namespace Sys2Proof.Machine

/-- Every working register is 0 between commands (`10_state.md` R12, R13; `70_reset_and_hazards.md` R169). -/
abbrev State.workingClear (s : State) : Prop :=
  s.l = 0 ∧ s.r = 0 ∧ s.c = 0 ∧ s.d = 0 ∧ s.sr = 0 ∧ s.xl = 0 ∧ s.xr = 0

/-- Key state whose valid flag is 0 holds zeros (`10_state.md` R11, R13; `93_implementation_defined.md` U15). -/
abbrev State.keylessZero (s : State) : Prop :=
  (s.dkv = false → s.dk = Vector.replicate 16 0) ∧
    (s.bfv = false → s.bf = bfKeyZero)

/-- `LAST` holds 0 or the code of a fault the core raises (`10_state.md` R15, `60_exceptions.md` R140). -/
abbrev State.lastLegal (s : State) : Prop := s.last ∈ completionsReturned.map completionCode

/-- `BUF` is in canonical form and lists no address outside `[0, BUF_SIZE)` (`10_state.md` R16). -/
abbrev State.bufLegal (s : State) : Prop := s.buf.wf ∧ ∀ cell ∈ s.buf, cell.1 < Config.bufSize

/-- What holds between any two host actions of a run from reset. -/
structure State.Inv (s : State) : Prop where
  workingClear : s.workingClear
  keylessZero : s.keylessZero
  lastLegal : s.lastLegal
  bufLegal : s.bufLegal

/-- A host action that reaches the core: a buffer access inside `BUF` (`20_memory.md` R42). -/
def HostAction.reachesCore : HostAction → Bool
  | .write addr _ => hostAddrOk addr
  | .read addr => hostAddrOk addr
  | .issue _ => true
  | .readStatus => true
  | .reset => true
  | .resetDuring _ => true

/-- A host that accesses `BUF` only inside its bounds, as `20_memory.md` R42 allows it. -/
abbrev State.hostLegal (s : State) : Prop := ∀ a ∈ s.host, a.reachesCore = true

end Sys2Proof.Machine
end

