-- ==== Sys2Proof/Certificates/Slice0/Obligations.lean ====
section
/-! DEFINITION. The statements about this model. Each docstring names the rule of `spec/` it formalises; where
a statement rests on a choice of the model it says so and names the log entry. -/

namespace Sys2Proof.Spec

open Sys2Proof.Machine

/-- The region `[off, off + n)` lies inside `BUF`, in unbounded integers (`20_memory.md` R33). -/
abbrev inside (off : Word) (n : Nat) : Prop := 0 ≤ off.toInt ∧ off.toInt + n ≤ Config.bufSize

/-- A command that ended with a completion code: the code is in `LAST` and was returned
(`60_exceptions.md` R140). -/
def ended (code : BitVec 4) (s : State) : State :=
  { s with last := code, returned := .code code :: s.returned }

/-- The bytes of an input region (`20_memory.md` R35). -/
def bytesAt (s : State) (off : Word) (n : Nat) : List Byte := s.buf.readBytes (regionStart off) n

/-- `BUF` after an output region is written (`20_memory.md` R35). -/
def bufWith (s : State) (off : Word) (bytes : List Byte) : Memory :=
  s.buf.writeBytes (regionStart off) bytes

/-- The pseudocode of R85 and R86 with the subkeys in the order they are used. -/
def desBlock (keys : List Subkey) (block : Block) : Block :=
  let v : Block := permute 64 block tableIP
  let lr := keys.foldl (fun x k => (x.2, x.1 ^^^ desF x.2 k 0))
    ((v.extractLsb' 32 32, v.extractLsb' 0 32) : Word × Word)
  permute 64 (cat 64 lr.2 lr.1) tableFP

/-- The pseudocode of R91 on one block. -/
def cryptBlock (dk : Vector Subkey 16) (iterations : Nat) (sr : Salt) (block : Block) : Block :=
  let v : Block := permute 64 block tableIP
  let pass := fun (lr : Word × Word) =>
    let x := dk.toList.foldl (fun x k => (x.2, x.1 ^^^ desF x.2 k sr)) lr
    (x.2, x.1)
  let lr := pass^[iterations] (v.extractLsb' 32 32, v.extractLsb' 0 32)
  permute 64 (cat 64 lr.1 lr.2) tableFP

/-- The loop of the schedule in the pseudocode of R78: the rotation counts still to come and the halves. -/
def scheduleLoop : List Nat → KeyHalf → KeyHalf → List Subkey
  | [], _, _ => []
  | n :: counts, c, d =>
    permute 48 (cat 56 (rol28 c n) (rol28 d n)) tablePC2 ::
      scheduleLoop counts (rol28 c n) (rol28 d n)

/-- One word of the pseudocode of R111, with the byte index running on. -/
def streamStep (data : List Byte) (signext : Bool) (tj : Word × Nat) : Word × Nat :=
  let b := data.getD tj.2 0
  ((tj.1 <<< 8) ||| (if signext then b.signExtend 32 else b.setWidth 32), (tj.2 + 1) % data.length)

/-- The loop of the pseudocode of R111: how many words are still to come, and the byte index `j`. -/
def streamLoop (data : List Byte) (signext : Bool) : Nat → Nat → List Word
  | 0, _ => []
  | n + 1, j =>
    let tj := (streamStep data signext)^[4] (0, j)
    tj.1 :: streamLoop data signext n tj.2

/-- The P-array indices `BF_Encipher` walks (R102). -/
def indicesUp : List (Fin 18) := [0, 1, 2, 3, 4, 5, 6, 7, 8, 9, 10, 11, 12, 13, 14, 15]

/-- The P-array indices `BF_Decipher` walks (R103). -/
def indicesDown : List (Fin 18) := [17, 16, 15, 14, 13, 12, 11, 10, 9, 8, 7, 6, 5, 4, 3, 2]

/-- The rounds of R102 and R103 with the P-array words in the order they are used, then the last swap
undone. -/
def bfRounds (k : BfKey) (indices : List (Fin 18)) (x : Word × Word) : Word × Word :=
  let y := indices.foldl
    (fun (x : Word × Word) i => (x.2 ^^^ bfF k (x.1 ^^^ k.bp[i]), x.1 ^^^ k.bp[i])) x
  (y.2, y.1)

/-- One block of the chain of R112: the salt words `SW[j]`, `SW[j + 1]` XORed in, then enciphered under the
key state it is given. -/
def chainStep (sw : List Word) (k : BfKey) (xl xr : Word) (j : Nat) : Word × Word :=
  bfEncipher k (xl ^^^ sw.getD j 0, xr ^^^ sw.getD (j + 1) 0)

/-- `BP[2*i] <- x`, `BP[2*i + 1] <- y`, every other word as it was. -/
def withPPair (k : BfKey) (i : Nat) (x y : Word) : BfKey :=
  { k with bp := Vector.ofFn fun m =>
      if m.val = 2 * i then x else if m.val = 2 * i + 1 then y else k.bp[m] }

/-- `BS[b][2*i] <- x`, `BS[b][2*i + 1] <- y`, every other word as it was. -/
def withSPair (k : BfKey) (b i : Nat) (x y : Word) : BfKey :=
  { k with bs := Vector.ofFn fun c => Vector.ofFn fun m =>
      if c.val = b ∧ m.val = 2 * i then x
      else if c.val = b ∧ m.val = 2 * i + 1 then y else k.bs[c][m] }

/-- What the loops of R112 carry: the key state as it is NOW, `xl`, `xr` and the salt index `j`. -/
abbrev Chain := BfKey × Word × Word × Nat

/-- The P-array loop of the pseudocode of R112: the block numbers still to come. -/
def pLoop (sw : List Word) : List Nat → Chain → Chain
  | [], st => st
  | i :: blocks, (k, xl, xr, j) =>
    let x := chainStep sw k xl xr j
    pLoop sw blocks (withPPair k i x.1 x.2, x.1, x.2, (j + 2) % 4)

/-- The S-box loops of the pseudocode of R112: the pairs (b, i) still to come. -/
def sLoop (sw : List Word) : List (Nat × Nat) → Chain → Chain
  | [], st => st
  | (b, i) :: blocks, (k, xl, xr, j) =>
    let x := chainStep sw k xl xr j
    sLoop sw blocks (withSPair k b i x.1 x.2, x.1, x.2, (j + 2) % 4)

/-- The pairs (b, i) of the S-box loops of R112 in their order: all of S-box 0 first. -/
def sBlocks : List (Nat × Nat) :=
  (List.range 4).flatMap fun b => (List.range 128).map fun i => (b, i)

/-- The chain after the P-array loop of R112, which starts from the zero block and salt index 0 with the key
words XORed into the P-array. -/
def pChain (k : BfKey) (kw : Vector Word 18) (sw : Vector Word 4) : Chain :=
  pLoop sw.toList (List.range 9) ({ k with bp := Vector.ofFn fun m => k.bp[m] ^^^ kw[m] }, 0, 0, 0)

/-- The pseudocode of R112: the S-box loops go on from where the P-array loop left the key state, `xl`, `xr`
and `j`. -/
def expandLoop (k : BfKey) (kw : Vector Word 18) (sw : Vector Word 4) : BfKey :=
  (sLoop sw.toList sBlocks (pChain k kw sw)).1

/-- The pseudocode of R120. -/
def eksLoop (kw : Vector Word 18) (salt : List Byte) (cost : Nat) : BfKey :=
  (fun k => expandLoop (expandLoop k kw (Vector.replicate 4 0)) (streamWords salt 18 false)
      (Vector.replicate 4 0))^[2 ^ cost]
    (expandLoop bfInitKey kw (streamWords salt 4 false))

/-- The six words of `BCRYPT_TEXT` as three blocks (R121). -/
def textBlocks : List (Word × Word) :=
  [(0x4F727068, 0x65616E42), (0x65686F6C, 0x64657253), (0x63727944, 0x6F756274)]

/-- The 24 bytes of the pseudocode of R122: each text block enciphered 64 times on its own. -/
def fullDigest (k : BfKey) : List Byte :=
  textBlocks.flatMap fun t =>
    bytesBe 4 ((bfEncipher k)^[64] t).1 ++ bytesBe 4 ((bfEncipher k)^[64] t).2

/-- The two words of a block (R100). -/
def pairAt (s : State) (off : Word) : Word × Word :=
  (be 32 (s.buf.readBytes (regionStart off) 4), be 32 (s.buf.readBytes (regionStart off + 4) 4))

/-- The completion code of a descriptor: the checks of `60_exceptions.md` R147 in their order, for each
command the conditions of R148. -/
def expectedCode (f : Descriptor) (s : State) : BitVec 4 :=
  if f.opc = 0x01 then
    if f.flags ≠ 0 ∨ f.b ≠ 0 ∨ f.c ≠ 0 ∨ f.d ≠ 0 then 6
    else if f.len.toNat ≠ 8 then 4
    else if ¬ inside f.a 8 then 3 else 0
  else if f.opc = 0x02 ∨ f.opc = 0x03 then
    if f.flags ≠ 0 ∨ f.len ≠ 0 ∨ f.c ≠ 0 ∨ f.d ≠ 0 then 6
    else if s.dkv = false then 5
    else if ¬ inside f.a 8 then 3
    else if ¬ inside f.b 8 then 3 else 0
  else if f.opc = 0x04 then
    if f.flags ≠ 0 ∨ f.len ≠ 0 ∨ f.b ≠ 0 then 6
    else if s.dkv = false then 5
    else if f.c.toInt < 0 then 3
    else if f.d.toInt < 0 ∨ 0xFFFFFF < f.d.toInt then 3
    else if ¬ inside f.a 8 then 3 else 0
  else if f.opc = 0x05 ∨ f.opc = 0x15 then
    if f.flags ≠ 0 ∨ f.len ≠ 0 ∨ f.a ≠ 0 ∨ f.b ≠ 0 ∨ f.c ≠ 0 ∨ f.d ≠ 0 then 6 else 0
  else if f.opc = 0x11 then
    if f.flags ≠ 0 ∨ f.b ≠ 0 ∨ f.c ≠ 0 ∨ f.d ≠ 0 then 6
    else if f.len.toNat < 1 ∨ 72 < f.len.toNat then 3
    else if ¬ inside f.a f.len.toNat then 3 else 0
  else if f.opc = 0x12 ∨ f.opc = 0x13 then
    if f.flags ≠ 0 ∨ f.len ≠ 0 ∨ f.c ≠ 0 ∨ f.d ≠ 0 then 6
    else if s.bfv = false then 5
    else if ¬ inside f.a 8 then 3
    else if ¬ inside f.b 8 then 3 else 0
  else if f.opc = 0x14 then
    if f.flags.toNat / 2 ≠ 0 then 6
    else if f.len.toNat < 1 ∨ 72 < f.len.toNat then 3
    else if f.c.toInt < 4 ∨ 31 < f.c.toInt then 3
    else if ¬ inside f.a f.len.toNat then 3
    else if ¬ inside f.b 16 then 3
    else if ¬ inside f.d 23 then 3 else 0
  else 6

/-- The regions of `BUF` a command reads (`20_memory.md` R31). -/
def regionsRead : Instr → List (Word × Nat)
  | .desKey a _ => [(a, 8)]
  | .desEnc a _ => [(a, 8)]
  | .desDec a _ => [(a, 8)]
  | .desCrypt a _ _ => [(a, 8)]
  | .desClr => []
  | .bfKey a len => [(a, len.toNat)]
  | .bfEnc a _ => [(a, 8)]
  | .bfDec a _ => [(a, 8)]
  | .bfBcrypt key len salt _ _ _ => [(key, len.toNat), (salt, 16)]
  | .bfClr => []

/-- The regions of `BUF` a command writes (`20_memory.md` R31). -/
def regionsWritten : Instr → List (Word × Nat)
  | .desKey _ _ => []
  | .desEnc _ b => [(b, 8)]
  | .desDec _ b => [(b, 8)]
  | .desCrypt a _ _ => [(a, 8)]
  | .desClr => []
  | .bfKey _ _ => []
  | .bfEnc _ b => [(b, 8)]
  | .bfDec _ b => [(b, 8)]
  | .bfBcrypt _ _ _ _ out _ => [(out, 23)]
  | .bfClr => []

/-- An address lies in one of the regions. -/
abbrev inRegions (regions : List (Word × Nat)) (addr : Nat) : Prop :=
  ∃ r ∈ regions, regionStart r.1 ≤ addr ∧ addr < regionStart r.1 + r.2

/-- `OPC[4]` selects the unit of a command (`30_encoding.md` R48). -/
def ofBlowfishUnit (i : Instr) : Bool := i.opcode.value.getLsbD 4

/-- A Blowfish key state put into a state, with its valid flag. -/
def withBf (k : BfKey) (v : Bool) (s : State) : State := { s with bf := k, bfv := v }

/-- A DES key schedule put into a state, with its valid flag. -/
def withDes (dk : Vector Subkey 16) (v : Bool) (s : State) : State := { s with dk := dk, dkv := v }

end Sys2Proof.Spec

open Sys2Proof Sys2Proof.Machine Sys2Proof.Spec

/-! ## Reset, invariant and runs -/

/-- `10_state.md` R20: after reset every register, flag and byte of `BUF` holds 0; and while both valid flags
are 0 every block command faults, whatever the key registers hold. -/
def Obligations.ResetHoldsZeroEverywhere : Prop :=
  (∀ i : Fin 16, State.reset.dk[i] = 0) ∧ State.reset.dkv = false ∧
  (∀ i : Fin 18, State.reset.bf.bp[i] = 0) ∧ (∀ (b : Fin 4) (i : Fin 256), State.reset.bf.bs[b][i] = 0) ∧
  State.reset.bfv = false ∧
  State.reset.l = 0 ∧ State.reset.r = 0 ∧ State.reset.c = 0 ∧ State.reset.d = 0 ∧
  State.reset.sr = 0 ∧ State.reset.xl = 0 ∧ State.reset.xr = 0 ∧
  State.reset.last = 0 ∧ statusWord State.reset = 0 ∧
  (∀ a, State.reset.buf.read a = 0) ∧
  ∀ (s : State) (a b c d : Word), s.dkv = false → s.bfv = false →
    exec (.desEnc a b) s = .next (ended 5 s) ∧ exec (.desDec a b) s = .next (ended 5 s) ∧
    exec (.desCrypt a c d) s = .next (ended 5 s) ∧
    exec (.bfEnc a b) s = .next (ended 5 s) ∧ exec (.bfDec a b) s = .next (ended 5 s)

/-- The reset state meets the invariant of `Safety.lean`: working registers 0 (`10_state.md` R12), units without
a key hold zeros (R11, R13), `LAST` a legal code (R15, `60_exceptions.md` R140), `BUF` in canonical form inside
its bounds (R16; the form is the model's choice, log entry 11). -/
def Obligations.ResetMeetsInvariant : Prop := State.reset.Inv

/-- Every step keeps: working registers 0 (R12), a unit without a key holds zeros (R11, R13), `LAST` a legal
code (R15, R140), `BUF` in canonical form inside its bounds (R16; the form is the model's choice, log entry 11). -/
def Obligations.StepKeepsInvariant : Prop :=
  ∀ s t : State, s.Inv → step s = .next t → t.Inv

/-- A run is a finite list of host actions and ends when the list is exhausted; no command and no fault of
the core ends it earlier (`70_reset_and_hazards.md` R168, R172). That the list stands in the state is the
model's choice (log entry 2). -/
def Obligations.LegalHostListRunsToItsEnd : Prop :=
  ∀ s : State, s.hostLegal →
    ∃ t : State, Host.Core.run core s.host.length s = .next t ∧ t.host = []

/-- A step whose next host action issues a descriptor runs exactly the command it selects, with the rest of
the host's list still to come (the list is the model's, log entry 2). -/
def Obligations.StepIssuesDecodedCommand : Prop :=
  ∀ (s : State) (w : CommandWord) (rest : List HostAction) (i : Instr),
    s.host = .issue w :: rest → decode w = .ok i →
      i.wellFormed = true ∧ step s = exec i { s with host := rest }

/-! ## Encoding -/

/-- `30_encoding.md` R50: a descriptor that matches no row raises IllegalCommand and changes nothing but
`LAST`; this covers the 246 undefined opcodes and a defined opcode with a nonzero must-be-zero field. -/
def Obligations.IllegalDescriptorRaisesIllegalCommand : Prop :=
  (∀ (s : State) (w : CommandWord) (rest : List HostAction),
    s.host = .issue w :: rest → (∀ o : Opcode, o.selectedBy w = false) →
      step s = .next (ended 6 { s with host := rest })) ∧
  ((List.range 256).filter fun v => opcodeOf (BitVec.ofNat 8 v) == none).length = 246 ∧
  (∀ f : Descriptor, opcodeOf f.opc = none → ∀ o : Opcode, o.selectedBy f.toBits = false) ∧
  (∀ (f : Descriptor) (o : Opcode), f.opc = o.value → o.reservedZero f = false →
    ∀ o' : Opcode, o'.selectedBy f.toBits = false)

/-- `30_encoding.md` R49: the masks and matches of the ten rows; the must-be-zero fields are what a mask
covers; a descriptor selects the command of the row it matches; no two rows match one descriptor. -/
def Obligations.DecodeFollowsTheMaskTable : Prop :=
  (opcodes.map fun o => (o.mask, o.pattern)) =
    [(0xFFFFFFFFFFFFFFFFFFFFFFFF000000000000FFFF, 0x01),
     (0xFFFFFFFFFFFFFFFF0000000000000000FFFFFFFF, 0x02),
     (0xFFFFFFFFFFFFFFFF0000000000000000FFFFFFFF, 0x03),
     (0x0000000000000000FFFFFFFF00000000FFFFFFFF, 0x04),
     (0xFFFFFFFFFFFFFFFFFFFFFFFFFFFFFFFFFFFFFFFF, 0x05),
     (0xFFFFFFFFFFFFFFFFFFFFFFFF000000000000FFFF, 0x11),
     (0xFFFFFFFFFFFFFFFF0000000000000000FFFFFFFF, 0x12),
     (0xFFFFFFFFFFFFFFFF0000000000000000FFFFFFFF, 0x13),
     (0x000000000000000000000000000000000000FEFF, 0x14),
     (0xFFFFFFFFFFFFFFFFFFFFFFFFFFFFFFFFFFFFFFFF, 0x15)] ∧
  (∀ (w : CommandWord) (o : Opcode), o.selectedBy w = true ↔
    (Descriptor.ofBits w).opc = o.value ∧ o.reservedZero (Descriptor.ofBits w) = true) ∧
  (∀ (w : CommandWord) (o : Opcode), o.selectedBy w = true →
    decode w = .ok (o.command (Descriptor.ofBits w))) ∧
  (∀ w : CommandWord, (∀ o : Opcode, o.selectedBy w = false) → ∃ e, decode w = .error e) ∧
  (∀ (w : CommandWord) (o o' : Opcode), o.selectedBy w = true → o'.selectedBy w = true → o = o')

/-- Decoding the descriptor of a well-formed command gives that command back, for every operand value. -/
def Obligations.DecodeEncodeRoundTrip : Prop :=
  ∀ i : Instr, i.wellFormed = true → decode (encode i) = .ok i

/-- A descriptor that decodes is the descriptor of the command it decodes to, and that is well formed. -/
def Obligations.EncodeDecodeRoundTrip : Prop :=
  ∀ (w : CommandWord) (i : Instr), decode w = .ok i → encode i = w ∧ i.wellFormed = true

/-- The worked encodings of `30_encoding.md` section 5, one of every command, decode as listed there. -/
def Obligations.WorkedEncodingsDecode : Prop :=
  decode 0x0000000000000000000000000000000000080001 = .ok (.desKey 0 8) ∧
  decode 0x0000000000000000000000100000000800000002 = .ok (.desEnc 8 16) ∧
  decode 0x0000000000000000000000180000001000000003 = .ok (.desDec 16 24) ∧
  decode 0x000009E600000019000000000000000800000004 = .ok (.desCrypt 8 25 0x9E6) ∧
  decode 0x0000000000000000000000000000000000000005 = .ok .desClr ∧
  decode 0x0000000000000000000000000000000000080011 = .ok (.bfKey 0 8) ∧
  decode 0x0000000000000000000000080000000800000012 = .ok (.bfEnc 8 8) ∧
  decode 0x0000000000000000000000100000000800000013 = .ok (.bfDec 8 16) ∧
  decode 0x0000002000000005000000100000000000020114 = .ok (.bfBcrypt 0 2 16 5 32 1) ∧
  decode 0x0000000000000000000000000000000000000015 = .ok .bfClr

/-! ## Status register and host port -/

/-- `10_state.md` R15: the fields of `STATUS`, its reserved bits, the read without side effect, and who writes
`LAST`: every command, with the code it returns, and nothing else (reset, which clears it, is R160). -/
def Obligations.StatusFieldsAndTheirWriters : Prop :=
  (∀ s : State, (statusWord s).getLsbD 0 = s.dkv ∧ (statusWord s).getLsbD 1 = s.bfv ∧
    (statusWord s).extractLsb' 4 4 = s.last ∧
    ∀ i, (i = 2 ∨ i = 3 ∨ 8 ≤ i) → (statusWord s).getLsbD i = false) ∧
  statusWord State.reset = 0 ∧
  (∀ (s : State) (rest : List HostAction), s.host = .readStatus :: rest →
    step s = .next { s with host := rest, returned := .status (statusWord s) :: s.returned }) ∧
  (∀ (s : State) (w : CommandWord), ∃ t, issue w s = .next t ∧ t.returned = .code t.last :: s.returned) ∧
  (∀ (s t : State) (addr : Nat) (byte : Byte), hostWrite addr byte s = .next t → t.last = s.last) ∧
  (∀ (s t : State) (addr : Nat), hostRead addr s = .next t → t.last = s.last) ∧
  (∀ s t : State, readStatus s = .next t → t.last = s.last)

/-- A host write inside `BUF` changes that byte and nothing else of the core; a host read returns the byte
last written and changes nothing of the core (`20_memory.md` section 4). -/
def Obligations.HostAccessInsideBuf : Prop :=
  (∀ (s : State) (addr : Nat) (byte : Byte) (rest : List HostAction), s.buf.wf →
    addr < Config.bufSize → s.host = .write addr byte :: rest →
      ∃ m : Memory, step s = .next { s with host := rest, buf := m } ∧
        m.read addr = byte ∧ ∀ a, a ≠ addr → m.read a = s.buf.read a) ∧
  (∀ (s : State) (addr : Nat) (rest : List HostAction),
    addr < Config.bufSize → s.host = .read addr :: rest →
      step s = .next { s with host := rest, returned := .byte (s.buf.read addr) :: s.returned })

/-- The model's choice (log entry 5): a host access outside `BUF`, which does not reach the core, stops the
run by name (`93_implementation_defined.md` U9, treatment `refuse`). -/
def Obligations.HostAccessOutsideBufStops : Prop :=
  ∀ (s : State) (addr : Nat) (byte : Byte) (rest : List HostAction), Config.bufSize ≤ addr →
    (s.host = .write addr byte :: rest → step s = .fault (.hostAddressOutsideBuf addr)) ∧
    (s.host = .read addr :: rest → step s = .fault (.hostAddressOutsideBuf addr))

/-- Reset, between commands or while one executes, gives the reset state of the core; an abandoned command
returns no code and leaves nothing. That the host's own list and record outlive it is the model's choice
(log entry 9). -/
def Obligations.ResetActionClearsTheCore : Prop :=
  ∀ (s : State) (a : HostAction) (rest : List HostAction),
    (a = .reset ∨ ∃ w, a = .resetDuring w) → s.host = a :: rest →
      step s = .next { State.reset with host := rest, returned := s.returned }

/-! ## Completion codes and faults -/

/-- `60_exceptions.md` R140: the codes; every command returns its code and writes the same to `LAST`; only
five of the codes occur. -/
def Obligations.EveryCommandReturnsAndRecordsItsCode : Prop :=
  [completionCode .ok, completionCode .nullArgument, completionCode .argumentFormat,
    completionCode .rangeViolation, completionCode .lengthViolation, completionCode .invalidState,
    completionCode .illegalCommand] = [0, 1, 2, 3, 4, 5, 6] ∧
  ∀ (w : CommandWord) (s : State),
    ∃ how ∈ [Completion.ok, .rangeViolation, .lengthViolation, .invalidState, .illegalCommand],
      ∃ t, issue w s = .next t ∧ t.last = completionCode how ∧
        t.returned = .code (completionCode how) :: s.returned ∧
        (how ≠ .ok → t = { s with last := t.last, returned := t.returned })

/-- `60_exceptions.md` R146: a command that raises a fault leaves no trace but its code, and the core goes
on. -/
def Obligations.FaultLeavesOnlyItsCode : Prop :=
  ∀ (w : CommandWord) (s t : State), issue w s = .next t → t.last ≠ 0 → t = ended t.last s

/-- `60_exceptions.md` R147, R148: which code every descriptor ends with, in every state. -/
def Obligations.FaultTableOfEveryDescriptor : Prop :=
  ∀ (f : Descriptor) (s : State), ∃ t, issue f.toBits s = .next t ∧ t.last = expectedCode f s

/-! ## Byte and bit order -/

/-- `40_des_primitives.md` R60: where the bits of the eight bytes of a block stand in its value. -/
def Obligations.BlockBytesAreBigEndian : Prop :=
  ∀ bytes : List Byte, bytes.length = 8 → ∀ j, 1 ≤ j → j ≤ 64 →
    pos (be 64 bytes) j = (be 64 bytes).getLsbD (64 - j) ∧
    pos (be 64 bytes) j = (bytes.getD ((j - 1) / 8) 0).getLsbD (7 - (j - 1) % 8)

/-- Packing and unpacking bytes undo each other, for blocks and for words (`20_memory.md` section 2). -/
def Obligations.BytePackingIsInvertible : Prop :=
  (∀ bytes : List Byte, bytes.length = 8 → bytesBe 8 (be 64 bytes) = bytes) ∧
  (∀ v : Block, be 64 (bytesBe 8 v) = v) ∧
  (∀ bytes : List Byte, bytes.length = 4 → bytesBe 4 (be 32 bytes) = bytes) ∧
  (∀ v : Word, be 32 (bytesBe 4 v) = v)

/-! ## DES primitives -/

/-- `40_des_primitives.md` R62: the table, that it inverts `IP`, where it is applied (after the last round, to
the swapped halves), and the example. -/
def Obligations.FinalPermutationInvertsInitial : Prop :=
  tableFP =
    [40, 8, 48, 16, 56, 24, 64, 32, 39, 7, 47, 15, 55, 23, 63, 31,
     38, 6, 46, 14, 54, 22, 62, 30, 37, 5, 45, 13, 53, 21, 61, 29,
     36, 4, 44, 12, 52, 20, 60, 28, 35, 3, 43, 11, 51, 19, 59, 27,
     34, 2, 42, 10, 50, 18, 58, 26, 33, 1, 41, 9, 49, 17, 57, 25] ∧
  (∀ j, 1 ≤ j → j ≤ 64 → tableFP.getD (tableIP.getD (j - 1) 0 - 1) 0 = j) ∧
  (∀ v : Block, permute 64 (permute 64 v tableIP : Block) tableFP = v) ∧
  (∀ l r : Word, outputBlock (l, r) = permute 64 (cat 64 r l) tableFP) ∧
  (∀ (dk : Vector Subkey 16) (v : Block),
    desEncipher dk v = outputBlock (desRounds 0 dk.toList (initialHalves v))) ∧
  permute 64 (0x0A4CD99543423234 : Block) tableFP = (0x85E813540F0AB405 : Block)

/-- `40_des_primitives.md` R64: `SaltSwap` exchanges the two bits of every pair its mask selects, is the
identity for the mask 0, stands between E and the subkey XOR, and is off in `DES.ENC` and `DES.DEC`. -/
def Obligations.SaltSwapExchangesSelectedBits : Prop :=
  (∀ (x : Subkey) (sr : Salt), saltSwap x sr =
    cat 48 (x.extractLsb' 24 24 ^^^ ((x.extractLsb' 24 24 ^^^ x.extractLsb' 0 24) &&& sr))
      (x.extractLsb' 0 24 ^^^ ((x.extractLsb' 24 24 ^^^ x.extractLsb' 0 24) &&& sr))) ∧
  (∀ (x : Subkey) (sr : Salt) (k : Nat), k < 24 →
    pos (saltSwap x sr) (24 - k) = (if sr.getLsbD k then pos x (48 - k) else pos x (24 - k)) ∧
    pos (saltSwap x sr) (48 - k) = (if sr.getLsbD k then pos x (24 - k) else pos x (48 - k))) ∧
  (∀ x : Subkey, saltSwap x 0 = x) ∧
  (∀ (r : Word) (k : Subkey) (sr : Salt), desF r k sr =
    permute 32 (substitute (saltSwap (permute 48 r tableE) sr ^^^ k)) tableP) ∧
  (∀ (dk : Vector Subkey 16) (v : Block),
    desEncipher dk v = outputBlock (desRounds 0 dk.toList (initialHalves v)) ∧
    desDecipher dk v = outputBlock (desRounds 0 dk.toList.reverse (initialHalves v))) ∧
  saltSwap 0x75EA5430AA09 0x400000 = 0x35EA5470AA09 ∧
  saltSwap 0x75EA5430AA09 0x679000 = 0x30EA5475AA09 ∧
  saltSwap 0x75EA5430AA09 0xFFFFFF = 0x30AA0975EA54 ∧
  saltSwap 0x75EA5430AA09 0x000001 = 0x75EA5530AA08 ∧
  saltSwap 0x75EA5430AA09 0x800000 = 0x75EA5430AA09

/-- `43_des_crypt.md` R90: bit i of the salt, when set, exchanges positions i + 1 and i + 25 of the
expansion, in every round of a pass; the examples of the reversal. -/
def Obligations.SaltBitExchangesExpansionPositions : Prop :=
  (∀ (x : Subkey) (s : Salt) (i : Nat), i < 24 →
    pos (saltSwap x (bitrev24 s)) (i + 1) =
      (if s.getLsbD i then pos x (i + 25) else pos x (i + 1)) ∧
    pos (saltSwap x (bitrev24 s)) (i + 25) =
      (if s.getLsbD i then pos x (i + 1) else pos x (i + 25))) ∧
  (∀ salt : Word, saltMask salt = bitrev24 (salt.extractLsb' 0 24)) ∧
  (∀ (dk : Vector Subkey 16) (sr : Salt) (lr : Word × Word), cryptPass dk sr lr =
    (dk.toList.foldl (fun x k => (x.2, x.1 ^^^ desF x.2 k sr)) lr).swap) ∧
  [(0x000001 : Salt), 0x000002, 0x0009E6, 0x000FFF, 0x123456, 0x800000, 0xFFFFFF, 0].map bitrev24 =
    [0x800000, 0x400000, 0x679000, 0xFFF000, 0x6A2C48, 0x000001, 0xFFFFFF, 0]

/-- `40_des_primitives.md` R69: a round, and the round that undoes it. -/
def Obligations.FeistelRoundIsInvertible : Prop :=
  ∀ (l r : Word) (k : Subkey) (sr : Salt),
    desRound sr (l, r) k = (r, l ^^^ desF r k sr) ∧
    (l, r) = ((desRound sr (l, r) k).2 ^^^ desF (desRound sr (l, r) k).1 k sr,
      (desRound sr (l, r) k).1)

/-! ## DES key schedule -/

/-- `41_des_key_schedule.md` R76: the counts; each round rotates both halves left within 28 bits by its
count; the counts sum to 28, so after round 15 a half is back at its starting value. -/
def Obligations.RotationsAccumulateToAFullTurn : Prop :=
  tableROT = [1, 1, 2, 2, 2, 2, 2, 2, 1, 2, 2, 2, 2, 2, 2, 1] ∧ tableROT.sum = 28 ∧
  (∀ (v : KeyHalf) (n : Nat), n = 1 ∨ n = 2 → rol28 v n = v.rotateLeft n) ∧
  (∀ v : KeyHalf, rotated v 0 = rol28 v 1) ∧
  (∀ (v : KeyHalf) (i : Nat), i < 15 →
    rotated v (i + 1) = rol28 (rotated v i) (tableROT.getD (i + 1) 0)) ∧
  (∀ v : KeyHalf, rotated v 15 = v)

/-- `41_des_key_schedule.md` R78: the schedule is the loop of the rule, with the worked example. -/
def Obligations.ScheduleFollowsItsLoop : Prop :=
  (∀ k : Block, (desSchedule k).toList =
    scheduleLoop tableROT ((permute 56 k tablePC1 : BitVec 56).extractLsb' 28 28)
      ((permute 56 k tablePC1 : BitVec 56).extractLsb' 0 28)) ∧
  (desSchedule 0x133457799BBCDFF1).toList =
    [0x1B02EFFC7072, 0x79AED9DBC9E5, 0x55FC8A42CF99, 0x72ADD6DB351D, 0x7CEC07EB53A8, 0x63A53E507B2F,
     0xEC84B7F618BC, 0xF78A3AC13BFB, 0xE0DBEBEDE781, 0xB1F347BA464F, 0x215FD3DED386, 0x7571F59467E9,
     0x97C5D1FABA41, 0x5F43B7F2E73A, 0xBF918D3D3F0A, 0xCB3D8B0E17F5]

/-- `41_des_key_schedule.md` R79: `PC1` selects no low bit of a key byte, so the schedule does not depend on
them; no key is checked, corrected or refused; the examples. -/
def Obligations.ScheduleIgnoresParityBits : Prop :=
  (∀ p ∈ tablePC1, p % 8 ≠ 0) ∧
  (∀ k k' : Block, (∀ i, i < 64 → i % 8 ≠ 0 → k.getLsbD i = k'.getLsbD i) →
    desSchedule k = desSchedule k') ∧
  (∀ (a : Word) (s : State), inside a 8 →
    ∃ t, exec (.desKey a 8) s = .next t ∧ t.last = 0 ∧ t.buf = s.buf ∧
      t.dk = desSchedule (be 64 (bytesAt s a 8))) ∧
  desSchedule 0x0000000000000000 = Vector.replicate 16 0 ∧
  desSchedule 0x0101010101010101 = Vector.replicate 16 0 ∧
  desSchedule 0xFEFEFEFEFEFEFEFE = Vector.replicate 16 0xFFFFFFFFFFFF ∧
  desSchedule 0xFFFFFFFFFFFFFFFF = Vector.replicate 16 0xFFFFFFFFFFFF

/-- `41_des_key_schedule.md` R80: `DES.KEY`, its encoding, its result and its faults. -/
def Obligations.DesKeyLoadsTheSchedule : Prop :=
  ∀ (a : Word) (len : BitVec 16) (s : State),
    decodeFields ⟨0x01, 0, len, a, 0, 0, 0⟩ = .ok (.desKey a len) ∧
    (len.toNat = 8 → inside a 8 → exec (.desKey a len) s = .next (ended 0
      { s with dk := desSchedule (be 64 (bytesAt s a 8)), dkv := true, c := 0, d := 0 })) ∧
    (len.toNat ≠ 8 → exec (.desKey a len) s = .next (ended 4 s)) ∧
    (len.toNat = 8 → ¬ inside a 8 → exec (.desKey a len) s = .next (ended 3 s))

/-- `41_des_key_schedule.md` R81: `DES.CLR` erases the schedule and its flag, whether a key was loaded or not,
and a block command after it raises InvalidState. -/
def Obligations.DesClrErasesTheSchedule : Prop :=
  decodeFields ⟨0x05, 0, 0, 0, 0, 0, 0⟩ = .ok .desClr ∧
  ∀ s : State, exec .desClr s =
      .next (ended 0 { s with dk := Vector.replicate 16 0, dkv := false }) ∧
    ∀ a b : Word, exec (.desEnc a b) (ended 0 { s with dk := Vector.replicate 16 0, dkv := false }) =
      .next (ended 5 (ended 0 { s with dk := Vector.replicate 16 0, dkv := false }))

/-! ## DES blocks -/

/-- `42_des_block.md` R85: `DES.ENC`, its encoding, its result and its faults in their order. -/
def Obligations.DesEncEnciphersOneBlock : Prop :=
  ∀ (a b : Word) (s : State),
    decodeFields ⟨0x02, 0, 0, a, b, 0, 0⟩ = .ok (.desEnc a b) ∧
    (s.dkv = true → inside a 8 → inside b 8 → exec (.desEnc a b) s = .next (ended 0
      { s with
        buf := bufWith s b (bytesBe 8 (desBlock s.dk.toList (be 64 (bytesAt s a 8))))
        l := 0, r := 0 })) ∧
    (s.dkv = false → exec (.desEnc a b) s = .next (ended 5 s)) ∧
    (s.dkv = true → ¬ inside a 8 → exec (.desEnc a b) s = .next (ended 3 s)) ∧
    (s.dkv = true → inside a 8 → ¬ inside b 8 → exec (.desEnc a b) s = .next (ended 3 s))

/-- `42_des_block.md` R86: `DES.DEC`, the subkeys in reverse order; its faults are those of `DES.ENC`. -/
def Obligations.DesDecDeciphersOneBlock : Prop :=
  ∀ (a b : Word) (s : State),
    decodeFields ⟨0x03, 0, 0, a, b, 0, 0⟩ = .ok (.desDec a b) ∧
    (s.dkv = true → inside a 8 → inside b 8 → exec (.desDec a b) s = .next (ended 0
      { s with
        buf := bufWith s b (bytesBe 8 (desBlock s.dk.toList.reverse (be 64 (bytesAt s a 8))))
        l := 0, r := 0 })) ∧
    (s.dkv = false → exec (.desDec a b) s = .next (ended 5 s)) ∧
    (s.dkv = true → ¬ inside a 8 → exec (.desDec a b) s = .next (ended 3 s)) ∧
    (s.dkv = true → inside a 8 → ¬ inside b 8 → exec (.desDec a b) s = .next (ended 3 s))

/-- `42_des_block.md` R87: for every schedule and every block, deciphering undoes enciphering and the
converse. -/
def Obligations.DesBlockRoundTrip : Prop :=
  ∀ (dk : Vector Subkey 16) (v : Block),
    desDecipher dk (desEncipher dk v) = v ∧ desEncipher dk (desDecipher dk v) = v

/-- The two commands undo each other on `BUF`: the block enciphered from `a` to `b` and deciphered from `b` to
`c` is at `c` what it was at `a`, wherever the three regions lie. -/
def Obligations.DesCommandsRoundTrip : Prop :=
  ∀ (s : State) (a b c : Word), s.buf.wf → s.dkv = true → inside a 8 → inside b 8 → inside c 8 →
    ∃ t u, exec (.desEnc a b) s = .next t ∧ exec (.desDec b c) t = .next u ∧
      bytesAt u c 8 = bytesAt s a 8

/-- `43_des_crypt.md` R91: `DES.CRYPT`, its encoding, its result and its faults. -/
def Obligations.DesCryptRunsItsPasses : Prop :=
  ∀ (a iterations salt : Word) (s : State),
    decodeFields ⟨0x04, 0, 0, a, 0, iterations, salt⟩ = .ok (.desCrypt a iterations salt) ∧
    (s.dkv = true → 0 ≤ iterations.toInt → 0 ≤ salt.toInt → salt.toInt ≤ 0xFFFFFF → inside a 8 →
      exec (.desCrypt a iterations salt) s = .next (ended 0
        { s with
          buf := bufWith s a (bytesBe 8 (cryptBlock s.dk iterations.toInt.toNat
            (bitrev24 (salt.extractLsb' 0 24)) (be 64 (bytesAt s a 8))))
          l := 0, r := 0, sr := 0 })) ∧
    (s.dkv = false → exec (.desCrypt a iterations salt) s = .next (ended 5 s)) ∧
    (s.dkv = true →
      (iterations.toInt < 0 ∨ salt.toInt < 0 ∨ 0xFFFFFF < salt.toInt ∨ ¬ inside a 8) →
      exec (.desCrypt a iterations salt) s = .next (ended 3 s))

/-- What `DES.CRYPT` computes on a block (`43_des_crypt.md` section 2): with salt 0 the n-fold encipherment;
with any salt n passes are n times one pass, and m + n passes are m passes and then n. -/
def Obligations.CryptIsIteratedEncipherment : Prop :=
  ∀ (dk : Vector Subkey 16) (v : Block),
    (∀ n, desCryptBlock dk n 0 v = (desEncipher dk)^[n] v) ∧
    (∀ (sr : Salt) (n : Nat), desCryptBlock dk n sr v = (desCryptBlock dk 1 sr)^[n] v) ∧
    (∀ (sr : Salt) (m n : Nat),
      desCryptBlock dk (m + n) sr v = desCryptBlock dk n sr (desCryptBlock dk m sr v))

/-- With no iteration `DES.CRYPT` rewrites the buffer with its own contents, whatever the salt
(`43_des_crypt.md` section 2, corner cases). -/
def Obligations.CryptZeroIterationsLeavesBuf : Prop :=
  ∀ (s : State) (a salt : Word), s.buf.wf → s.dkv = true → inside a 8 →
    0 ≤ salt.toInt → salt.toInt ≤ 0xFFFFFF →
      exec (.desCrypt a 0 salt) s = .next (ended 0 { s with l := 0, r := 0, sr := 0 })

/-- One iteration with salt 0 is `DES.ENC` in place, faults included (`43_des_crypt.md` section 2, corner
cases). -/
def Obligations.CryptOnceUnsaltedIsEncipher : Prop :=
  ∀ (s : State) (a : Word), s.sr = 0 → exec (.desCrypt a 1 0) s = exec (.desEnc a a) s

/-! ## Blowfish blocks -/

/-- `44_bf_block.md` R101, R102: the F-function, the sixteen rounds of an encipherment, and their examples on
the initial constants. -/
def Obligations.BfEncipherRunsItsRounds : Prop :=
  (∀ (k : BfKey) (x : Word), bfF k x =
    ((k.bs[0][(x.extractLsb' 24 8).toNat]'(x.extractLsb' 24 8).isLt +
      k.bs[1][(x.extractLsb' 16 8).toNat]'(x.extractLsb' 16 8).isLt) ^^^
      k.bs[2][(x.extractLsb' 8 8).toNat]'(x.extractLsb' 8 8).isLt) +
      k.bs[3][(x.extractLsb' 0 8).toNat]'(x.extractLsb' 0 8).isLt) ∧
  (∀ (k : BfKey) (x : Word × Word), bfEncipher k x =
    ((bfRounds k indicesUp x).1 ^^^ k.bp[17], (bfRounds k indicesUp x).2 ^^^ k.bp[16])) ∧
  bfF bfInitKey 0x00000000 = 0x2FCFF51E ∧ bfF bfInitKey 0x01020304 = 0x3CEDFF8C ∧
  bfF bfInitKey 0xFFFFFFFF = 0x452C2867 ∧ bfF bfInitKey 0x80000000 = 0x1D9CE8BC ∧
  bfEncipher bfInitKey (0, 0) = (0x706D9FCC, 0x1792D23A)

/-- `44_bf_block.md` R103: a decipherment walks the P-array from the top down, and for every key state and
every pair it undoes an encipherment and the converse. -/
def Obligations.BfBlockRoundTrip : Prop :=
  ∀ (k : BfKey) (x : Word × Word),
    bfDecipher k x =
      ((bfRounds k indicesDown x).1 ^^^ k.bp[0], (bfRounds k indicesDown x).2 ^^^ k.bp[1]) ∧
    bfDecipher k (bfEncipher k x) = x ∧ bfEncipher k (bfDecipher k x) = x

/-- `44_bf_block.md` R104: `BF.ENC`, its encoding, its result and its faults in their order. -/
def Obligations.BfEncEnciphersOneBlock : Prop :=
  ∀ (a b : Word) (s : State),
    decodeFields ⟨0x12, 0, 0, a, b, 0, 0⟩ = .ok (.bfEnc a b) ∧
    (s.bfv = true → inside a 8 → inside b 8 → exec (.bfEnc a b) s = .next (ended 0
      { s with
        buf := bufWith s b (bytesBe 4 (bfEncipher s.bf (pairAt s a)).1 ++
          bytesBe 4 (bfEncipher s.bf (pairAt s a)).2)
        xl := 0, xr := 0 })) ∧
    (s.bfv = false → exec (.bfEnc a b) s = .next (ended 5 s)) ∧
    (s.bfv = true → ¬ inside a 8 → exec (.bfEnc a b) s = .next (ended 3 s)) ∧
    (s.bfv = true → inside a 8 → ¬ inside b 8 → exec (.bfEnc a b) s = .next (ended 3 s))

/-- `44_bf_block.md` R105: `BF.DEC`, with the decipherment in place of the encipherment. -/
def Obligations.BfDecDeciphersOneBlock : Prop :=
  ∀ (a b : Word) (s : State),
    decodeFields ⟨0x13, 0, 0, a, b, 0, 0⟩ = .ok (.bfDec a b) ∧
    (s.bfv = true → inside a 8 → inside b 8 → exec (.bfDec a b) s = .next (ended 0
      { s with
        buf := bufWith s b (bytesBe 4 (bfDecipher s.bf (pairAt s a)).1 ++
          bytesBe 4 (bfDecipher s.bf (pairAt s a)).2)
        xl := 0, xr := 0 })) ∧
    (s.bfv = false → exec (.bfDec a b) s = .next (ended 5 s)) ∧
    (s.bfv = true → ¬ inside a 8 → exec (.bfDec a b) s = .next (ended 3 s)) ∧
    (s.bfv = true → inside a 8 → ¬ inside b 8 → exec (.bfDec a b) s = .next (ended 3 s))

/-- The two commands undo each other on `BUF`, for every key state, wherever the three regions lie. -/
def Obligations.BfCommandsRoundTrip : Prop :=
  ∀ (s : State) (a b c : Word), s.buf.wf → s.bfv = true → inside a 8 → inside b 8 → inside c 8 →
    ∃ t u, exec (.bfEnc a b) s = .next t ∧ exec (.bfDec b c) t = .next u ∧
      bytesAt u c 8 = bytesAt s a 8

/-! ## Blowfish key schedule -/

/-- `45_bf_key_schedule.md` R111: the words are those of the loop with its running index; without a byte of
0x80 or more the two forms agree; `BF.KEY` and every salt use the form without sign; the examples. -/
def Obligations.StreamWordsFollowTheRunningIndex : Prop :=
  (∀ (data : List Byte) (n : Nat) (signext : Bool), data ≠ [] →
    (streamWords data n signext).toList = streamLoop data signext n 0) ∧
  (∀ (data : List Byte) (n : Nat), (∀ b ∈ data, b.toNat < 0x80) →
    streamWords data n true = streamWords data n false) ∧
  (∀ key : List Byte,
    bfSchedule key = expandLoop bfInitKey (streamWords key 18 false) (Vector.replicate 4 0)) ∧
  (∀ (kw : Vector Word 18) (salt : List Byte) (cost : Nat), eksSetup kw salt cost =
    (fun k => expandLoop (expandLoop k kw (Vector.replicate 4 0)) (streamWords salt 18 false)
        (Vector.replicate 4 0))^[2 ^ cost]
      (expandLoop bfInitKey kw (streamWords salt 4 false))) ∧
  (streamWords [0x61, 0x62, 0x63] 4 false).toList = [0x61626361, 0x62636162, 0x63616263, 0x61626361] ∧
  (streamWords [0x01, 0x80, 0x02] 3 false).toList = [0x01800201, 0x80020180, 0x02018002] ∧
  (streamWords [0x01, 0x80, 0x02] 3 true).toList = [0xFF800201, 0xFFFFFF80, 0xFFFF8002] ∧
  (streamWords [0xA3] 2 true).toList = [0xFFFFFFA3, 0xFFFFFFA3] ∧
  (streamWords [0xA3] 2 false).toList = [0xA3A3A3A3, 0xA3A3A3A3] ∧
  (streamWords [0xFF, 0xFF, 0xA3] 3 true).toList = [0xFFFFFFFF, 0xFFFFFFFF, 0xFFFFFFA3]

/-- `45_bf_key_schedule.md` R112: an expansion is the loop of the rule, for every key state, key words and salt
words: it chains from the zero block, each block under the state as already replaced, `xl`, `xr` and the salt
index carried on from the P-array loop (which leaves the index at 2) into the S-box loops. Salt words of zero
do nothing, and then the first two P-array words are the encipherment of (0, 0) under the mixed P-array. -/
def Obligations.ExpansionChainsFromTheZeroBlock : Prop :=
  (∀ (k : BfKey) (kw : Vector Word 18) (sw : Vector Word 4),
    bfExpand k kw sw = expandLoop k kw sw ∧ (pChain k kw sw).2.2.2 = 2) ∧
  sBlocks.length = 4 * 128 ∧
  (∀ (k : BfKey) (xl xr : Word) (j : Nat),
    chainStep (Vector.replicate 4 0).toList k xl xr j = bfEncipher k (xl, xr)) ∧
  ∀ (k : BfKey) (kw : Vector Word 18),
    ((bfExpand k kw noSalt).bp[0], (bfExpand k kw noSalt).bp[1]) =
      bfEncipher ⟨Vector.zipWith (· ^^^ ·) k.bp kw, k.bs⟩ (0, 0)

/-- `45_bf_key_schedule.md` R113: `BF.KEY`, its encoding, its result and its faults. -/
def Obligations.BfKeyLoadsTheKeyState : Prop :=
  ∀ (a : Word) (len : BitVec 16) (s : State),
    decodeFields ⟨0x11, 0, len, a, 0, 0, 0⟩ = .ok (.bfKey a len) ∧
    (1 ≤ len.toNat → len.toNat ≤ 72 → inside a len.toNat →
      exec (.bfKey a len) s = .next (ended 0
        { s with
          bf := expandLoop bfInitKey (streamWords (bytesAt s a len.toNat) 18 false)
            (Vector.replicate 4 0)
          bfv := true, xl := 0, xr := 0 })) ∧
    ((len.toNat < 1 ∨ 72 < len.toNat ∨ ¬ inside a len.toNat) →
      exec (.bfKey a len) s = .next (ended 3 s))

/-- `45_bf_key_schedule.md` R114: `BF.CLR` erases the key state and its flag, whether a key was loaded or not,
and a block command after it raises InvalidState. -/
def Obligations.BfClrErasesTheKeyState : Prop :=
  decodeFields ⟨0x15, 0, 0, 0, 0, 0, 0⟩ = .ok .bfClr ∧
  ∀ s : State, ∃ t, exec .bfClr s = .next t ∧
    t = ended 0 { s with
      bf := ⟨Vector.replicate 18 0, Vector.replicate 4 (Vector.replicate 256 0)⟩
      bfv := false } ∧
    ∀ a b : Word, exec (.bfEnc a b) t = .next (ended 5 t)

/-- `45_bf_key_schedule.md` R115: keys with equal cyclic extensions to 72 bytes give the same key state; the
zero keys of 1, 3 and 8 bytes are equivalent, and a key of up to 36 bytes is equivalent to itself written
twice. -/
def Obligations.EqualCyclicKeysGiveEqualStates : Prop :=
  (∀ k k' : List Byte, k ≠ [] → k' ≠ [] →
    (∀ i, i < 72 → k.getD (i % k.length) 0 = k'.getD (i % k'.length) 0) →
      bfSchedule k = bfSchedule k') ∧
  bfSchedule [0] = bfSchedule [0, 0, 0] ∧
  bfSchedule [0] = bfSchedule (List.replicate 8 0) ∧
  (∀ k : List Byte, k ≠ [] → k.length ≤ 36 → bfSchedule k = bfSchedule (k ++ k))

/-! ## bcrypt -/

/-- `46_bf_bcrypt.md` R120: the setup is the loop of the rule, and the salt used as a key repeats its four words,
because 16 bytes are exactly four words. -/
def Obligations.SaltUsedAsAKeyRepeatsItsWords : Prop :=
  (∀ (kw : Vector Word 18) (salt : List Byte) (cost : Nat), eksSetup kw salt cost = eksLoop kw salt cost) ∧
  ∀ salt : List Byte, salt.length = 16 → ∀ i : Fin 18,
    (streamWords salt 18 false)[i] = (streamWords salt 4 false)[i.val % 4]'(by omega)

/-- `46_bf_bcrypt.md` R122, R123: `BF.BCRYPT`, its encoding, its result and its faults; the digest of every key
state is the first 23 of the 24 bytes of the three text blocks, each enciphered 64 times on its own. -/
def Obligations.BcryptWritesTheDigest : Prop :=
  (∀ k : BfKey, bcryptDigest k = (fullDigest k).take 23 ∧ (fullDigest k).length = 24) ∧
  ∀ (key : Word) (len : BitVec 16) (salt cost out : Word) (flags : Byte) (s : State), flags.toNat < 2 →
    decodeFields ⟨0x14, flags, len, key, salt, cost, out⟩ =
      .ok (.bfBcrypt key len salt cost out flags) ∧
    (1 ≤ len.toNat → len.toNat ≤ 72 → 4 ≤ cost.toInt → cost.toInt ≤ 31 →
      inside key len.toNat → inside salt 16 → inside out 23 →
      exec (.bfBcrypt key len salt cost out flags) s = .next (ended 0
        { s with
          buf := bufWith s out ((fullDigest (eksLoop
            (streamWords (bytesAt s key len.toNat) 18 (flags.getLsbD 0)) (bytesAt s salt 16)
            cost.toInt.toNat)).take 23)
          bf := ⟨Vector.replicate 18 0, Vector.replicate 4 (Vector.replicate 256 0)⟩
          bfv := false, xl := 0, xr := 0 })) ∧
    ((len.toNat < 1 ∨ 72 < len.toNat ∨ cost.toInt < 4 ∨ 31 < cost.toInt ∨
        ¬ inside key len.toNat ∨ ¬ inside salt 16 ∨ ¬ inside out 23) →
      exec (.bfBcrypt key len salt cost out flags) s = .next (ended 3 s))

/-- `46_bf_bcrypt.md` R124: the flag chooses sign extension of the key bytes, for the one `KW` that every
expansion uses, and never of the salt; it changes nothing unless some key byte is 0x80 or more; and with it
`A3 00` and `FF FF A3 00` give the same words, hence the same digest. -/
def Obligations.SignBugExtendsKeyBytes : Prop :=
  (∀ (key salt : List Byte) (cost : Nat) (signbug : Bool), bcrypt key salt cost signbug =
    (fullDigest ((fun k => expandLoop (expandLoop k (streamWords key 18 signbug) (Vector.replicate 4 0))
        (streamWords salt 18 false) (Vector.replicate 4 0))^[2 ^ cost]
      (expandLoop bfInitKey (streamWords key 18 signbug) (streamWords salt 4 false)))).take 23) ∧
  (∀ flags : Byte, signBug flags = flags.getLsbD 0) ∧
  (∀ (key salt : List Byte) (cost : Nat), (∀ b ∈ key, b.toNat < 0x80) →
    bcrypt key salt cost true = bcrypt key salt cost false) ∧
  streamWords [0xA3, 0x00] 18 true = Vector.replicate 18 0xFFFFA300 ∧
  streamWords [0xFF, 0xFF, 0xA3, 0x00] 18 true = Vector.replicate 18 0xFFFFA300 ∧
  (∀ (salt : List Byte) (cost : Nat),
    bcrypt [0xA3, 0x00] salt cost true = bcrypt [0xFF, 0xFF, 0xA3, 0x00] salt cost true)

/-- `46_bf_bcrypt.md` R125: after a successful `BF.BCRYPT` the Blowfish key state is zero, its flag is 0, and
the block commands raise InvalidState. (It holds of a `FLAGS` byte that no
descriptor carries too, the model's choice of log entry 14.) -/
def Obligations.BcryptDestroysTheBlowfishKey : Prop :=
  ∀ (key : Word) (len : BitVec 16) (salt cost out : Word) (flags : Byte) (s t : State),
    exec (.bfBcrypt key len salt cost out flags) s = .next t → t.last = 0 →
      (∀ i : Fin 18, t.bf.bp[i] = 0) ∧ (∀ (b : Fin 4) (i : Fin 256), t.bf.bs[b][i] = 0) ∧ t.bfv = false ∧
      ∀ a b : Word, exec (.bfEnc a b) t = .next (ended 5 t) ∧ exec (.bfDec a b) t = .next (ended 5 t)

/-! ## Between commands -/

/-- `70_reset_and_hazards.md` R164: `BF.KEY`, `BF.BCRYPT`, `BF.ENC` faults at the third command; no command of
one unit changes a register of the other: key state, valid flag, working registers. (It holds of a `FLAGS` byte
that no descriptor carries too, the model's choice of log entry 14.) -/
def Obligations.BcryptEndsALoadedKey : Prop :=
  (∀ (a key salt cost out x y : Word) (len len' : BitVec 16) (flags : Byte) (s t u : State),
    exec (.bfKey a len) s = .next t → t.last = 0 →
    exec (.bfBcrypt key len' salt cost out flags) t = .next u → u.last = 0 →
      t.bfv = true ∧ exec (.bfEnc x y) u = .next (ended 5 u)) ∧
  (∀ (i : Instr) (s t : State), exec i s = .next t →
    (ofBlowfishUnit i = true → t.dk = s.dk ∧ t.dkv = s.dkv ∧
      t.l = s.l ∧ t.r = s.r ∧ t.c = s.c ∧ t.d = s.d ∧ t.sr = s.sr) ∧
    (ofBlowfishUnit i = false → t.bf = s.bf ∧ t.bfv = s.bfv ∧ t.xl = s.xl ∧ t.xr = s.xr))

/-- `70_reset_and_hazards.md` R165: a key command replaces the whole key state; what was there before has no
influence. -/
def Obligations.KeyCommandsReplaceTheKey : Prop :=
  ∀ (a : Word) (len : BitVec 16) (s s' : State), s.buf = s'.buf →
    (len.toNat = 8 → inside a 8 →
      ∃ t t', exec (.desKey a len) s = .next t ∧ exec (.desKey a len) s' = .next t' ∧
        t.dkv = true ∧ t'.dkv = true ∧ t.dk = t'.dk) ∧
    (1 ≤ len.toNat → len.toNat ≤ 72 → inside a len.toNat →
      ∃ t t', exec (.bfKey a len) s = .next t ∧ exec (.bfKey a len) s' = .next t' ∧
        t.bfv = true ∧ t'.bfv = true ∧ t.bf = t'.bf)

/-- `70_reset_and_hazards.md` R166: a key command that faults leaves the old key in place and valid, a following
block command uses it, and `DES.CLR` removes it. -/
def Obligations.FailedKeyCommandKeepsTheOldKey : Prop :=
  (∀ (a : Word) (len : BitVec 16) (s t : State), t.last ≠ 0 →
    (exec (.desKey a len) s = .next t → t.dk = s.dk ∧ t.dkv = s.dkv) ∧
    (exec (.bfKey a len) s = .next t → t.bf = s.bf ∧ t.bfv = s.bfv)) ∧
  (∀ s : State, s.dkv = true →
    exec (.desKey 0 7) s = .next (ended 4 s) ∧
    (∀ a b : Word, inside a 8 → inside b 8 →
      ∃ t t', exec (.desEnc a b) s = .next t ∧ exec (.desEnc a b) (ended 4 s) = .next t' ∧
        t'.buf = t.buf ∧ t'.last = 0 ∧ t.last = 0) ∧
    ∃ u, exec .desClr (ended 4 s) = .next u ∧ u.dkv = false ∧ u.dk = Vector.replicate 16 0)

/-- No command of one unit reads or writes the key state of the other (`00_scope.md` section 2): whatever key
state the other unit holds, the command ends the same way and leaves that key state as it is. -/
def Obligations.UnitsAreIndependent : Prop :=
  (∀ (i : Instr) (s : State) (k : BfKey) (v : Bool), ofBlowfishUnit i = false →
    ∃ t, exec i s = .next t ∧ t = withBf s.bf s.bfv t ∧
      exec i (withBf k v s) = .next (withBf k v t)) ∧
  (∀ (i : Instr) (s : State) (dk : Vector Subkey 16) (v : Bool), ofBlowfishUnit i = true →
    ∃ t, exec i s = .next t ∧ t = withDes s.dk s.dkv t ∧
      exec i (withDes dk v s) = .next (withDes dk v t))

/-- `20_memory.md` R31: a command reads only its input regions and writes only its output region. Two buffers
that agree on the regions read give the same result: the same registers and returned values, the same bytes
in the region written, and outside that region each buffer is as it was. (It holds of a `FLAGS` byte that no
descriptor carries too, the model's choice of log entry 14.) -/
def Obligations.CommandsReachOnlyTheirRegions : Prop :=
  ∀ (i : Instr) (s : State) (m : Memory), s.buf.wf → m.wf →
    (∀ addr, inRegions (regionsRead i) addr → s.buf.read addr = m.read addr) →
      ∃ t t', exec i s = .next t ∧ exec i { s with buf := m } = .next t' ∧
        t' = { t with buf := t'.buf } ∧
        (t.last = 0 → ∀ addr, inRegions (regionsWritten i) addr →
          t.buf.read addr = t'.buf.read addr) ∧
        (∀ addr, ¬ inRegions (regionsWritten i) addr →
          t.buf.read addr = s.buf.read addr ∧ t'.buf.read addr = m.read addr)

/-- Which registers each command writes (`10_state.md` section 9): the DES key state only `DES.KEY` and
`DES.CLR`, the Blowfish key state only `BF.KEY`, `BF.BCRYPT` and `BF.CLR`, `BUF` none of the key commands; a
working register is left as it was or cleared; the host's list is never touched. -/
def Obligations.RegistersWrittenByEachCommand : Prop :=
  ∀ (i : Instr) (s t : State), exec i s = .next t →
    (i.opcode ∉ [Opcode.desKey, .desClr] → t.dk = s.dk ∧ t.dkv = s.dkv) ∧
    (i.opcode ∉ [Opcode.bfKey, .bfBcrypt, .bfClr] → t.bf = s.bf ∧ t.bfv = s.bfv) ∧
    (i.opcode ∈ [Opcode.desKey, .desClr, .bfKey, .bfClr] →
      t.buf = s.buf ∧ ∀ a, t.buf.read a = s.buf.read a) ∧
    (t.l = s.l ∨ t.l = 0) ∧ (t.r = s.r ∨ t.r = 0) ∧ (t.c = s.c ∨ t.c = 0) ∧ (t.d = s.d ∨ t.d = 0) ∧
    (t.sr = s.sr ∨ t.sr = 0) ∧ (t.xl = s.xl ∨ t.xl = 0) ∧ (t.xr = s.xr ∨ t.xr = 0) ∧
    t.host = s.host ∧ t.returned = .code t.last :: s.returned

/-- `70_reset_and_hazards.md` R161: the first command after reset is the one the host issues first; the block
commands raise InvalidState, the key, clear and bcrypt commands execute normally, `STATUS` reads 0. (It holds
of a `FLAGS` byte that no descriptor carries too, the model's choice of log entry 14.) -/
def Obligations.CommandsAfterReset : Prop :=
  ∀ (h : List HostAction) (ρ : List HostReturn) (s : State),
    s = { State.reset with host := h, returned := ρ } →
    (∀ w rest, h = .issue w :: rest → step s = issue w { s with host := rest }) ∧
    (∀ a b c d : Word,
      exec (.desEnc a b) s = .next (ended 5 s) ∧ exec (.desDec a b) s = .next (ended 5 s) ∧
      exec (.desCrypt a c d) s = .next (ended 5 s) ∧
      exec (.bfEnc a b) s = .next (ended 5 s) ∧ exec (.bfDec a b) s = .next (ended 5 s)) ∧
    (∀ a : Word, inside a 8 → ∃ t, exec (.desKey a 8) s = .next t ∧ t.last = 0 ∧ t.dkv = true) ∧
    (∀ (a : Word) (len : BitVec 16), 1 ≤ len.toNat → len.toNat ≤ 72 → inside a len.toNat →
      ∃ t, exec (.bfKey a len) s = .next t ∧ t.last = 0 ∧ t.bfv = true) ∧
    (∀ (key : Word) (len : BitVec 16) (salt cost out : Word) (flags : Byte),
      1 ≤ len.toNat → len.toNat ≤ 72 → 4 ≤ cost.toInt → cost.toInt ≤ 31 →
      inside key len.toNat → inside salt 16 → inside out 23 →
        ∃ t, exec (.bfBcrypt key len salt cost out flags) s = .next t ∧ t.last = 0) ∧
    exec .desClr s = .next (ended 0 s) ∧ exec .bfClr s = .next (ended 0 s) ∧ statusWord s = 0

/-- `70_reset_and_hazards.md` R169: at the moment a completion code is returned every working register is 0,
whether the command succeeded or faulted (they were 0 when it began, R12). -/
def Obligations.NoWorkingMaterialRemains : Prop :=
  ∀ (w : CommandWord) (s : State), s.workingClear → ∃ t, issue w s = .next t ∧ t.workingClear
end

