-- ==== Sys2Proof/Laws/Bits.lean ====
section
/-! SUPPORT. What each bit of a permuted, packed or unpacked value is: one lemma per operation of
`Machine/Bits.lean`, to cite instead of unfolding its fold. -/

namespace Sys2Proof.Machine

/-- Bit i of a permuted value is the position the table lists i places before its end. -/
theorem getLsbD_permute {n : Nat} (m : Nat) (v : BitVec n) (t : List Nat) (i : Nat) :
    (permute m v t).getLsbD i = (decide (i < m) && (t.reverse.map (pos v)).getD i false) := by
  suffices h : ∀ t : List Nat, ∀ i, BitVec.getLsbD (w := m) (t.foldr (fun (p : Nat) (out : BitVec m) =>
      (out <<< 1) ||| (BitVec.ofBool (pos v p)).setWidth m) 0) i =
        (decide (i < m) && (t.map (pos v)).getD i false) by
    have := h t.reverse i
    rwa [List.foldr_reverse] at this
  intro t
  induction t with
  | nil => simp
  | cons p t ih =>
    intro i
    cases i with
    | zero => by_cases hm : 0 < m <;> simp [hm]
    | succ i =>
      by_cases hm : i + 1 < m
      · have hi : i < m := by omega
        simpa [hm, hi] using ih i
      · simp [hm]

/-- Bit i of packed bytes is bit i % 8 of the byte i / 8 places before the last. -/
theorem getLsbD_be (w : Nat) (bytes : List Byte) (i : Nat) :
    (be w bytes).getLsbD i =
      (decide (i < w) && (bytes.reverse.getD (i / 8) 0).getLsbD (i % 8)) := by
  suffices h : ∀ bytes : List Byte, ∀ i, BitVec.getLsbD (w := w)
      (bytes.foldr (fun (b : Byte) (acc : BitVec w) => (acc <<< 8) ||| b.setWidth w) 0) i = (decide (i < w) && (bytes.getD (i / 8) 0).getLsbD (i % 8)) by
    have := h bytes.reverse i
    rwa [List.foldr_reverse] at this
  intro bytes
  induction bytes with
  | nil => simp
  | cons b bytes ih =>
    intro i
    by_cases hw : i < w
    · by_cases h8 : i < 8
      · have h0 : i / 8 = 0 := by omega
        have h1 : i % 8 = i := by omega
        simp [hw, h8, h0, h1]
      · obtain ⟨j, rfl⟩ : ∃ j, i = j + 8 := ⟨i - 8, by omega⟩
        have hj : j < w := by omega
        have h0 : (j + 8) / 8 = j / 8 + 1 := by omega
        have h1 : (j + 8) % 8 = j % 8 := by omega
        have hb : b.getLsbD (j + 8) = false := BitVec.getLsbD_of_ge b _ (by omega)
        simpa [hw, hj, h0, h1, hb] using ih j
    · simp [hw]

/-- Bit i of a concatenation. -/
@[simp] theorem getLsbD_cat {n m : Nat} (w : Nat) (a : BitVec n) (b : BitVec m) (i : Nat) :
    (cat w a b).getLsbD i =
      (decide (i < w) && if i < m then b.getLsbD i else a.getLsbD (i - m)) := by
  by_cases hw : i < w
  · by_cases hm : i < m
    · simp [cat, hw, hm]
    · have hb : b.getLsbD i = false := BitVec.getLsbD_of_ge b i (by omega)
      simp [cat, hw, hm, hb]
  · simp [cat, hw]

@[simp] theorem length_bytesBe {w : Nat} (k : Nat) (v : BitVec w) : (bytesBe k v).length = k := by
  simp [bytesBe]

@[simp] theorem getElem_bytesBe {w : Nat} (k : Nat) (v : BitVec w) (i : Nat)
    (h : i < (bytesBe k v).length) : (bytesBe k v)[i] = v.extractLsb' (8 * (k - 1 - i)) 8 := by
  simp [bytesBe]

/-- Bit i of the reversed 24-bit value is bit 23 - i (`00_scope.md` 5.3). -/
theorem getLsbD_bitrev24 (s : Salt) (i : Nat) (h : i < 24) :
    (bitrev24 s).getLsbD i = s.getLsbD (23 - i) := by
  rw [bitrev24, BitVec.getLsbD_reverse, BitVec.getMsbD]
  simp [h]

end Sys2Proof.Machine
end

