-- ==== Sys2Proof/Laws/Ciphers.lean ====
section
/-! SUPPORT. The small lemmas of the cipher functions: how rounds compose, and how many bytes each output
has. -/

namespace Sys2Proof.Machine

@[simp] theorem desRounds_nil (sr : Salt) (lr : Word × Word) : desRounds sr [] lr = lr := rfl

@[simp] theorem desRounds_cons (sr : Salt) (k : Subkey) (keys : List Subkey) (lr : Word × Word) :
    desRounds sr (k :: keys) lr = desRounds sr keys (desRound sr lr k) := rfl

theorem desRounds_append (sr : Salt) (keys keys' : List Subkey) (lr : Word × Word) :
    desRounds sr (keys ++ keys') lr = desRounds sr keys' (desRounds sr keys lr) := by
  simp [desRounds]

@[simp] theorem length_pairBytes (x : Word × Word) : (pairBytes x).length = 8 := by simp [pairBytes]

theorem length_bcryptFull (k : BfKey) : (bcryptFull k).length = 24 := by
  have h : ∀ n, ((List.map (bfEncipher k))^[n] bcryptText).length = 3 := by
    intro n
    induction n with
    | zero => rfl
    | succ n ih => rw [Function.iterate_succ_apply', List.length_map, ih]
  simp only [bcryptFull, List.length_flatMap, List.length_append, length_bytesBe, List.map_const', h]
  rfl

@[simp] theorem length_bcryptDigest (k : BfKey) : (bcryptDigest k).length = 23 := by
  rw [bcryptDigest, List.length_take, length_bcryptFull]
  rfl

@[simp] theorem length_bcrypt (key salt : List Byte) (cost : Nat) (signbug : Bool) :
    (bcrypt key salt cost signbug).length = 23 := by simp [bcrypt]

end Sys2Proof.Machine
end

