-- ==== Sys2Proof/Laws/Decode.lean ====
section
/-! SUPPORT. The small lemmas of the descriptor's fields and of the opcode map. -/

namespace Sys2Proof

/-- The fields of an assembled descriptor are the fields it was assembled from. -/
@[simp] theorem Descriptor.ofBits_toBits (f : Descriptor) : Descriptor.ofBits f.toBits = f := by
  obtain ⟨opc, flags, len, a, b, c, d⟩ := f
  simp only [Descriptor.ofBits, Descriptor.toBits, Descriptor.mk.injEq]
  refine ⟨?_, ?_, ?_, ?_, ?_, ?_, ?_⟩ <;>
  · refine BitVec.eq_of_getLsbD_eq fun i hi => ?_
    simp only [BitVec.getLsbD_extractLsb', Machine.getLsbD_cat, hi, decide_true, Bool.true_and]
    grind

/-- A descriptor is determined by its fields. -/
@[simp] theorem Descriptor.toBits_ofBits (w : CommandWord) : (Descriptor.ofBits w).toBits = w := by
  refine BitVec.eq_of_getLsbD_eq fun i hi => ?_
  simp only [Descriptor.toBits, Descriptor.ofBits, Machine.getLsbD_cat, BitVec.getLsbD_extractLsb']
  grind

@[simp] theorem opcodeOf_value (o : Opcode) : opcodeOf o.value = some o := by
  cases o <;> rfl

theorem opcodeOf_eq_some {v : Byte} {o : Opcode} (h : opcodeOf v = some o) : o.value = v := by
  simpa using List.find?_some h

theorem opcodeOf_eq_none {v : Byte} (h : opcodeOf v = none) (o : Opcode) : o.value ≠ v := by
  intro hv
  rw [← hv, opcodeOf_value] at h
  cases h

/-- Decoding a descriptor given by its fields. -/
theorem decode_toBits (f : Descriptor) : decode f.toBits = decodeFields f := by
  simp [decode]

@[simp] theorem Instr.fields_opc (i : Instr) : i.fields.opc = i.opcode.value := by
  cases i <;> rfl

end Sys2Proof
end

