-- ==== Sys2Proof/Laws/Memory.lean ====
section
/-! SUPPORT. The laws of `BUF`: a read after a write, what a write leaves alone, and that every memory
operation keeps the canonical form and the bounds. -/

namespace Sys2Proof.Machine

@[simp] theorem Memory.read_nil (a : Nat) : Memory.read [] a = unlistedByte := rfl

theorem Memory.read_cons (b a : Nat) (v : Byte) (m : Memory) :
    Memory.read ((b, v) :: m) a = if b = a then v else Memory.read m a := rfl

theorem Memory.read_of_lt {m : Memory} {a : Nat} (h : ∀ c ∈ m, a < c.1) :
    Memory.read m a = unlistedByte := by
  induction m with
  | nil => rfl
  | cons c m ih =>
    rw [Memory.read_cons, if_neg, ih]
    · exact fun c hc => h c (by simp [hc])
    · have := h c (by simp)
      omega

/-- A write leaves every other address alone, in any memory. -/
theorem Memory.read_write_other {m : Memory} {a b : Nat} {v : Byte} (h : b ≠ a) :
    Memory.read (Memory.write m a v) b = Memory.read m b := by
  induction m with
  | nil =>
    rw [Memory.write]
    split
    · rfl
    · rw [Memory.read_cons, if_neg (Ne.symm h)]
  | cons c m ih =>
    obtain ⟨x, w⟩ := c
    rw [Memory.write]
    split
    · split
      · rfl
      · rw [Memory.read_cons, if_neg (Ne.symm h)]
    · split
      · rename_i hx
        subst hx
        split <;> simp [Memory.read_cons, Ne.symm h]
      · rw [Memory.read_cons, Memory.read_cons, ih]

/-- A read after a write to the same address gives the value written. -/
theorem Memory.read_write_same {m : Memory} (hm : m.wf) (a : Nat) (v : Byte) :
    Memory.read (Memory.write m a v) a = v := by
  induction m with
  | nil =>
    rw [Memory.write]
    split
    · rename_i hv
      exact hv.symm
    · simp [Memory.read_cons]
  | cons c m ih =>
    obtain ⟨x, w⟩ := c
    have hp := List.pairwise_cons.mp hm.1
    have hm' : Memory.wf m := ⟨hp.2, fun c hc => hm.2 c (by simp [hc])⟩
    rw [Memory.write]
    split
    · rename_i hlt
      split
      · rename_i hv
        rw [Memory.read_of_lt, hv]
        intro c hc
        rcases List.mem_cons.mp hc with rfl | hc
        · exact hlt
        · exact lt_trans hlt (hp.1 c hc)
      · simp [Memory.read_cons]
    · split
      · rename_i hx
        subst hx
        split
        · rename_i hv
          rw [Memory.read_of_lt hp.1, hv]
        · simp [Memory.read_cons]
      · rename_i hx
        rw [Memory.read_cons, if_neg (Ne.symm hx), ih hm']

theorem Memory.mem_write {m : Memory} {a : Nat} {v : Byte} {c : Host.Cell}
    (h : c ∈ Memory.write m a v) : c ∈ m ∨ c = (a, v) ∧ v ≠ unlistedByte := by
  induction m with
  | nil =>
    rw [Memory.write] at h
    split at h
    · exact .inl h
    · exact .inr ⟨by simpa using h, ‹_›⟩
  | cons x m ih =>
    obtain ⟨x, w⟩ := x
    rw [Memory.write] at h
    split at h
    · split at h
      · exact .inl h
      · rcases List.mem_cons.mp h with rfl | h
        · exact .inr ⟨rfl, ‹_›⟩
        · exact .inl h
    · split at h
      · split at h
        · exact .inl (by simp [h])
        · rcases List.mem_cons.mp h with rfl | h
          · exact .inr ⟨rfl, ‹_›⟩
          · exact .inl (by simp [h])
      · rcases List.mem_cons.mp h with rfl | h
        · exact .inl (by simp)
        · rcases ih h with h | h
          · exact .inl (by simp [h])
          · exact .inr h

/-- A write keeps the canonical form. -/
theorem Memory.write_wf {m : Memory} (hm : m.wf) (a : Nat) (v : Byte) : (m.write a v).wf := by
  refine ⟨?_, fun c hc => ?_⟩
  · induction m with
    | nil =>
      rw [Memory.write]
      split <;> simp
    | cons x m ih =>
      obtain ⟨x, w⟩ := x
      have hp := List.pairwise_cons.mp hm.1
      have hm' : Memory.wf m := ⟨hp.2, fun c hc => hm.2 c (by simp [hc])⟩
      rw [Memory.write]
      split
      · split
        · exact hm.1
        · rename_i hlt _
          refine List.pairwise_cons.mpr ⟨fun c hc => ?_, hm.1⟩
          rcases List.mem_cons.mp hc with rfl | hc
          · exact hlt
          · exact lt_trans hlt (hp.1 c hc)
      · split
        · rename_i hx
          subst hx
          split
          · exact hp.2
          · exact List.pairwise_cons.mpr ⟨hp.1, hp.2⟩
        · refine List.pairwise_cons.mpr ⟨fun c hc => ?_, ih hm'⟩
          rcases Memory.mem_write hc with hc | ⟨rfl, _⟩
          · exact hp.1 c hc
          · show x < a
            omega
  · rcases Memory.mem_write hc with hc | ⟨rfl, hv⟩
    · exact hm.2 c hc
    · exact hv

/-- Two memories in canonical form that read alike are equal. -/
theorem Memory.ext_of_wf {m m' : Memory} (hm : m.wf) (hm' : m'.wf)
    (h : ∀ a, m.read a = m'.read a) : m = m' := by
  induction m generalizing m' with
  | nil =>
    cases m' with
    | nil => rfl
    | cons c m' =>
      obtain ⟨x, w⟩ := c
      have := h x
      simp [Memory.read_cons] at this
      exact absurd this.symm (hm'.2 (x, w) (by simp))
  | cons c m ih =>
    obtain ⟨x, w⟩ := c
    have hp := List.pairwise_cons.mp hm.1
    have hw : w ≠ unlistedByte := hm.2 (x, w) (by simp)
    cases m' with
    | nil =>
      have := h x
      simp [Memory.read_cons] at this
      exact absurd this hw
    | cons c' m' =>
      obtain ⟨x', w'⟩ := c'
      have hp' := List.pairwise_cons.mp hm'.1
      have hw' : w' ≠ unlistedByte := hm'.2 (x', w') (by simp)
      have hxx : x = x' := by
        rcases lt_trichotomy x x' with hlt | heq | hlt
        · have := h x
          rw [Memory.read_cons, if_pos rfl, Memory.read_of_lt] at this
          · exact absurd this hw
          · intro c hc
            rcases List.mem_cons.mp hc with rfl | hc
            · exact hlt
            · exact lt_trans hlt (hp'.1 c hc)
        · exact heq
        · have := h x'
          rw [Memory.read_cons (m := m'), if_pos rfl, Memory.read_of_lt] at this
          · exact absurd this.symm hw'
          · intro c hc
            rcases List.mem_cons.mp hc with rfl | hc
            · exact hlt
            · exact lt_trans hlt (hp.1 c hc)
      subst hxx
      have hww : w = w' := by simpa [Memory.read_cons] using h x
      subst hww
      congr 1
      refine ih ⟨hp.2, fun c hc => hm.2 c (by simp [hc])⟩
        ⟨hp'.2, fun c hc => hm'.2 c (by simp [hc])⟩ fun a => ?_
      by_cases ha : x = a
      · subst ha
        rw [Memory.read_of_lt hp.1, Memory.read_of_lt hp'.1]
      · simpa [Memory.read_cons, ha] using h a

/-! ## Regions -/

@[simp] theorem Memory.length_readBytes (m : Memory) (addr n : Nat) :
    (m.readBytes addr n).length = n := by simp [Memory.readBytes]

@[simp] theorem Memory.getElem_readBytes (m : Memory) (addr n k : Nat)
    (h : k < (m.readBytes addr n).length) : (m.readBytes addr n)[k] = m.read (addr + k) := by
  simp [Memory.readBytes]

theorem Memory.writeBytes_wf {m : Memory} (hm : m.wf) (addr : Nat) (bytes : List Byte) :
    (m.writeBytes addr bytes).wf := by
  induction bytes generalizing m addr with
  | nil => exact hm
  | cons b bytes ih => exact ih (Memory.write_wf hm addr b) (addr + 1)

theorem Memory.mem_writeBytes {m : Memory} {addr : Nat} {bytes : List Byte} {c : Host.Cell}
    (h : c ∈ m.writeBytes addr bytes) : c ∈ m ∨ addr ≤ c.1 ∧ c.1 < addr + bytes.length := by
  induction bytes generalizing m addr with
  | nil => exact .inl h
  | cons b bytes ih =>
    rcases ih (m := m.write addr b) h with h | ⟨h₁, h₂⟩
    · rcases Memory.mem_write h with h | ⟨rfl, _⟩
      · exact .inl h
      · exact .inr ⟨le_refl _, by simp⟩
    · exact .inr ⟨by omega, by simp only [List.length_cons]; omega⟩

/-- A region write leaves every address outside the region alone, in any memory. -/
theorem Memory.read_writeBytes_outside {m : Memory} {addr a : Nat} {bytes : List Byte}
    (h : a < addr ∨ addr + bytes.length ≤ a) : (m.writeBytes addr bytes).read a = m.read a := by
  induction bytes generalizing m addr with
  | nil => rfl
  | cons b bytes ih =>
    rw [Memory.writeBytes, ih, Memory.read_write_other]
    · rcases h with h | h
      · omega
      · simp only [List.length_cons] at h
        omega
    · rcases h with h | h
      · omega
      · simp only [List.length_cons] at h
        omega

/-- Inside a region just written, each address reads the byte written there. -/
theorem Memory.read_writeBytes_inside {m : Memory} (hm : m.wf) {addr k : Nat} {bytes : List Byte}
    (h : k < bytes.length) : (m.writeBytes addr bytes).read (addr + k) = bytes[k] := by
  induction bytes generalizing m addr k with
  | nil => simp at h
  | cons b bytes ih =>
    rw [Memory.writeBytes]
    cases k with
    | zero =>
      rw [Memory.read_writeBytes_outside (.inl (by omega))]
      simpa using Memory.read_write_same hm addr b
    | succ k =>
      have := ih (m := m.write addr b) (Memory.write_wf hm addr b) (addr := addr + 1) (k := k)
        (by simpa using h)
      simpa [Nat.add_assoc, Nat.add_comm 1 k] using this

/-- A region just written reads back as the bytes written. -/
theorem Memory.readBytes_writeBytes {m : Memory} (hm : m.wf) (addr : Nat) (bytes : List Byte) :
    (m.writeBytes addr bytes).readBytes addr bytes.length = bytes := by
  refine List.ext_getElem (by simp) fun k h₁ h₂ => ?_
  rw [Memory.getElem_readBytes, Memory.read_writeBytes_inside hm h₂]

end Sys2Proof.Machine
end

