-- ==== Sys2Proof/Laws/State.lean ====
section
/-! SUPPORT. One lemma per field of `State` and per update of `Machine/Ops.lean`, each true by `rfl`: what
the update leaves there. -/

namespace Sys2Proof.Machine

/-! ### complete -/

@[simp] theorem complete_dk (how : Completion) (s : State) : (complete how s).dk = s.dk := rfl
@[simp] theorem complete_dkv (how : Completion) (s : State) : (complete how s).dkv = s.dkv := rfl
@[simp] theorem complete_l (how : Completion) (s : State) : (complete how s).l = s.l := rfl
@[simp] theorem complete_r (how : Completion) (s : State) : (complete how s).r = s.r := rfl
@[simp] theorem complete_c (how : Completion) (s : State) : (complete how s).c = s.c := rfl
@[simp] theorem complete_d (how : Completion) (s : State) : (complete how s).d = s.d := rfl
@[simp] theorem complete_sr (how : Completion) (s : State) : (complete how s).sr = s.sr := rfl
@[simp] theorem complete_bf (how : Completion) (s : State) : (complete how s).bf = s.bf := rfl
@[simp] theorem complete_bfv (how : Completion) (s : State) : (complete how s).bfv = s.bfv := rfl
@[simp] theorem complete_xl (how : Completion) (s : State) : (complete how s).xl = s.xl := rfl
@[simp] theorem complete_xr (how : Completion) (s : State) : (complete how s).xr = s.xr := rfl
@[simp] theorem complete_last (how : Completion) (s : State) :
    (complete how s).last = completionCode how := rfl
@[simp] theorem complete_buf (how : Completion) (s : State) : (complete how s).buf = s.buf := rfl
@[simp] theorem complete_host (how : Completion) (s : State) : (complete how s).host = s.host := rfl
@[simp] theorem complete_returned (how : Completion) (s : State) :
    (complete how s).returned = .code (completionCode how) :: s.returned := rfl

/-! ### raiseFault -/

@[simp] theorem raiseFault_dk (f : Completion) (s : State) : (raiseFault f s).dk = s.dk := rfl
@[simp] theorem raiseFault_dkv (f : Completion) (s : State) : (raiseFault f s).dkv = s.dkv := rfl
@[simp] theorem raiseFault_l (f : Completion) (s : State) : (raiseFault f s).l = s.l := rfl
@[simp] theorem raiseFault_r (f : Completion) (s : State) : (raiseFault f s).r = s.r := rfl
@[simp] theorem raiseFault_c (f : Completion) (s : State) : (raiseFault f s).c = s.c := rfl
@[simp] theorem raiseFault_d (f : Completion) (s : State) : (raiseFault f s).d = s.d := rfl
@[simp] theorem raiseFault_sr (f : Completion) (s : State) : (raiseFault f s).sr = s.sr := rfl
@[simp] theorem raiseFault_bf (f : Completion) (s : State) : (raiseFault f s).bf = s.bf := rfl
@[simp] theorem raiseFault_bfv (f : Completion) (s : State) : (raiseFault f s).bfv = s.bfv := rfl
@[simp] theorem raiseFault_xl (f : Completion) (s : State) : (raiseFault f s).xl = s.xl := rfl
@[simp] theorem raiseFault_xr (f : Completion) (s : State) : (raiseFault f s).xr = s.xr := rfl
@[simp] theorem raiseFault_last (f : Completion) (s : State) :
    (raiseFault f s).last = completionCode f := rfl
@[simp] theorem raiseFault_buf (f : Completion) (s : State) : (raiseFault f s).buf = s.buf := rfl
@[simp] theorem raiseFault_host (f : Completion) (s : State) : (raiseFault f s).host = s.host := rfl
@[simp] theorem raiseFault_returned (f : Completion) (s : State) :
    (raiseFault f s).returned = .code (completionCode f) :: s.returned := rfl

/-! ### writeRegion -/

@[simp] theorem writeRegion_dk (off : Word) (bytes : List Byte) (s : State) :
    (writeRegion off bytes s).dk = s.dk := rfl
@[simp] theorem writeRegion_dkv (off : Word) (bytes : List Byte) (s : State) :
    (writeRegion off bytes s).dkv = s.dkv := rfl
@[simp] theorem writeRegion_l (off : Word) (bytes : List Byte) (s : State) :
    (writeRegion off bytes s).l = s.l := rfl
@[simp] theorem writeRegion_r (off : Word) (bytes : List Byte) (s : State) :
    (writeRegion off bytes s).r = s.r := rfl
@[simp] theorem writeRegion_c (off : Word) (bytes : List Byte) (s : State) :
    (writeRegion off bytes s).c = s.c := rfl
@[simp] theorem writeRegion_d (off : Word) (bytes : List Byte) (s : State) :
    (writeRegion off bytes s).d = s.d := rfl
@[simp] theorem writeRegion_sr (off : Word) (bytes : List Byte) (s : State) :
    (writeRegion off bytes s).sr = s.sr := rfl
@[simp] theorem writeRegion_bf (off : Word) (bytes : List Byte) (s : State) :
    (writeRegion off bytes s).bf = s.bf := rfl
@[simp] theorem writeRegion_bfv (off : Word) (bytes : List Byte) (s : State) :
    (writeRegion off bytes s).bfv = s.bfv := rfl
@[simp] theorem writeRegion_xl (off : Word) (bytes : List Byte) (s : State) :
    (writeRegion off bytes s).xl = s.xl := rfl
@[simp] theorem writeRegion_xr (off : Word) (bytes : List Byte) (s : State) :
    (writeRegion off bytes s).xr = s.xr := rfl
@[simp] theorem writeRegion_last (off : Word) (bytes : List Byte) (s : State) :
    (writeRegion off bytes s).last = s.last := rfl
@[simp] theorem writeRegion_buf (off : Word) (bytes : List Byte) (s : State) :
    (writeRegion off bytes s).buf = s.buf.writeBytes (regionStart off) bytes := rfl
@[simp] theorem writeRegion_host (off : Word) (bytes : List Byte) (s : State) :
    (writeRegion off bytes s).host = s.host := rfl
@[simp] theorem writeRegion_returned (off : Word) (bytes : List Byte) (s : State) :
    (writeRegion off bytes s).returned = s.returned := rfl

/-! ### loadDesKey -/

@[simp] theorem loadDesKey_dk (keys : Vector Subkey 16) (s : State) :
    (loadDesKey keys s).dk = keys := rfl
@[simp] theorem loadDesKey_dkv (keys : Vector Subkey 16) (s : State) :
    (loadDesKey keys s).dkv = true := rfl
@[simp] theorem loadDesKey_l (keys : Vector Subkey 16) (s : State) :
    (loadDesKey keys s).l = s.l := rfl
@[simp] theorem loadDesKey_r (keys : Vector Subkey 16) (s : State) :
    (loadDesKey keys s).r = s.r := rfl
@[simp] theorem loadDesKey_c (keys : Vector Subkey 16) (s : State) :
    (loadDesKey keys s).c = s.c := rfl
@[simp] theorem loadDesKey_d (keys : Vector Subkey 16) (s : State) :
    (loadDesKey keys s).d = s.d := rfl
@[simp] theorem loadDesKey_sr (keys : Vector Subkey 16) (s : State) :
    (loadDesKey keys s).sr = s.sr := rfl
@[simp] theorem loadDesKey_bf (keys : Vector Subkey 16) (s : State) :
    (loadDesKey keys s).bf = s.bf := rfl
@[simp] theorem loadDesKey_bfv (keys : Vector Subkey 16) (s : State) :
    (loadDesKey keys s).bfv = s.bfv := rfl
@[simp] theorem loadDesKey_xl (keys : Vector Subkey 16) (s : State) :
    (loadDesKey keys s).xl = s.xl := rfl
@[simp] theorem loadDesKey_xr (keys : Vector Subkey 16) (s : State) :
    (loadDesKey keys s).xr = s.xr := rfl
@[simp] theorem loadDesKey_last (keys : Vector Subkey 16) (s : State) :
    (loadDesKey keys s).last = s.last := rfl
@[simp] theorem loadDesKey_buf (keys : Vector Subkey 16) (s : State) :
    (loadDesKey keys s).buf = s.buf := rfl
@[simp] theorem loadDesKey_host (keys : Vector Subkey 16) (s : State) :
    (loadDesKey keys s).host = s.host := rfl
@[simp] theorem loadDesKey_returned (keys : Vector Subkey 16) (s : State) :
    (loadDesKey keys s).returned = s.returned := rfl

/-! ### eraseDesKey -/

@[simp] theorem eraseDesKey_dk (s : State) : (eraseDesKey s).dk = Vector.replicate 16 0 := rfl
@[simp] theorem eraseDesKey_dkv (s : State) : (eraseDesKey s).dkv = false := rfl
@[simp] theorem eraseDesKey_l (s : State) : (eraseDesKey s).l = s.l := rfl
@[simp] theorem eraseDesKey_r (s : State) : (eraseDesKey s).r = s.r := rfl
@[simp] theorem eraseDesKey_c (s : State) : (eraseDesKey s).c = s.c := rfl
@[simp] theorem eraseDesKey_d (s : State) : (eraseDesKey s).d = s.d := rfl
@[simp] theorem eraseDesKey_sr (s : State) : (eraseDesKey s).sr = s.sr := rfl
@[simp] theorem eraseDesKey_bf (s : State) : (eraseDesKey s).bf = s.bf := rfl
@[simp] theorem eraseDesKey_bfv (s : State) : (eraseDesKey s).bfv = s.bfv := rfl
@[simp] theorem eraseDesKey_xl (s : State) : (eraseDesKey s).xl = s.xl := rfl
@[simp] theorem eraseDesKey_xr (s : State) : (eraseDesKey s).xr = s.xr := rfl
@[simp] theorem eraseDesKey_last (s : State) : (eraseDesKey s).last = s.last := rfl
@[simp] theorem eraseDesKey_buf (s : State) : (eraseDesKey s).buf = s.buf := rfl
@[simp] theorem eraseDesKey_host (s : State) : (eraseDesKey s).host = s.host := rfl
@[simp] theorem eraseDesKey_returned (s : State) : (eraseDesKey s).returned = s.returned := rfl

/-! ### loadBfKey -/

@[simp] theorem loadBfKey_dk (k : BfKey) (s : State) : (loadBfKey k s).dk = s.dk := rfl
@[simp] theorem loadBfKey_dkv (k : BfKey) (s : State) : (loadBfKey k s).dkv = s.dkv := rfl
@[simp] theorem loadBfKey_l (k : BfKey) (s : State) : (loadBfKey k s).l = s.l := rfl
@[simp] theorem loadBfKey_r (k : BfKey) (s : State) : (loadBfKey k s).r = s.r := rfl
@[simp] theorem loadBfKey_c (k : BfKey) (s : State) : (loadBfKey k s).c = s.c := rfl
@[simp] theorem loadBfKey_d (k : BfKey) (s : State) : (loadBfKey k s).d = s.d := rfl
@[simp] theorem loadBfKey_sr (k : BfKey) (s : State) : (loadBfKey k s).sr = s.sr := rfl
@[simp] theorem loadBfKey_bf (k : BfKey) (s : State) : (loadBfKey k s).bf = k := rfl
@[simp] theorem loadBfKey_bfv (k : BfKey) (s : State) : (loadBfKey k s).bfv = true := rfl
@[simp] theorem loadBfKey_xl (k : BfKey) (s : State) : (loadBfKey k s).xl = s.xl := rfl
@[simp] theorem loadBfKey_xr (k : BfKey) (s : State) : (loadBfKey k s).xr = s.xr := rfl
@[simp] theorem loadBfKey_last (k : BfKey) (s : State) : (loadBfKey k s).last = s.last := rfl
@[simp] theorem loadBfKey_buf (k : BfKey) (s : State) : (loadBfKey k s).buf = s.buf := rfl
@[simp] theorem loadBfKey_host (k : BfKey) (s : State) : (loadBfKey k s).host = s.host := rfl
@[simp] theorem loadBfKey_returned (k : BfKey) (s : State) :
    (loadBfKey k s).returned = s.returned := rfl

/-! ### eraseBfKey -/

@[simp] theorem eraseBfKey_dk (s : State) : (eraseBfKey s).dk = s.dk := rfl
@[simp] theorem eraseBfKey_dkv (s : State) : (eraseBfKey s).dkv = s.dkv := rfl
@[simp] theorem eraseBfKey_l (s : State) : (eraseBfKey s).l = s.l := rfl
@[simp] theorem eraseBfKey_r (s : State) : (eraseBfKey s).r = s.r := rfl
@[simp] theorem eraseBfKey_c (s : State) : (eraseBfKey s).c = s.c := rfl
@[simp] theorem eraseBfKey_d (s : State) : (eraseBfKey s).d = s.d := rfl
@[simp] theorem eraseBfKey_sr (s : State) : (eraseBfKey s).sr = s.sr := rfl
@[simp] theorem eraseBfKey_bf (s : State) : (eraseBfKey s).bf = bfKeyZero := rfl
@[simp] theorem eraseBfKey_bfv (s : State) : (eraseBfKey s).bfv = false := rfl
@[simp] theorem eraseBfKey_xl (s : State) : (eraseBfKey s).xl = s.xl := rfl
@[simp] theorem eraseBfKey_xr (s : State) : (eraseBfKey s).xr = s.xr := rfl
@[simp] theorem eraseBfKey_last (s : State) : (eraseBfKey s).last = s.last := rfl
@[simp] theorem eraseBfKey_buf (s : State) : (eraseBfKey s).buf = s.buf := rfl
@[simp] theorem eraseBfKey_host (s : State) : (eraseBfKey s).host = s.host := rfl
@[simp] theorem eraseBfKey_returned (s : State) : (eraseBfKey s).returned = s.returned := rfl

/-! ### clearLR -/

@[simp] theorem clearLR_dk (s : State) : (clearLR s).dk = s.dk := rfl
@[simp] theorem clearLR_dkv (s : State) : (clearLR s).dkv = s.dkv := rfl
@[simp] theorem clearLR_l (s : State) : (clearLR s).l = 0 := rfl
@[simp] theorem clearLR_r (s : State) : (clearLR s).r = 0 := rfl
@[simp] theorem clearLR_c (s : State) : (clearLR s).c = s.c := rfl
@[simp] theorem clearLR_d (s : State) : (clearLR s).d = s.d := rfl
@[simp] theorem clearLR_sr (s : State) : (clearLR s).sr = s.sr := rfl
@[simp] theorem clearLR_bf (s : State) : (clearLR s).bf = s.bf := rfl
@[simp] theorem clearLR_bfv (s : State) : (clearLR s).bfv = s.bfv := rfl
@[simp] theorem clearLR_xl (s : State) : (clearLR s).xl = s.xl := rfl
@[simp] theorem clearLR_xr (s : State) : (clearLR s).xr = s.xr := rfl
@[simp] theorem clearLR_last (s : State) : (clearLR s).last = s.last := rfl
@[simp] theorem clearLR_buf (s : State) : (clearLR s).buf = s.buf := rfl
@[simp] theorem clearLR_host (s : State) : (clearLR s).host = s.host := rfl
@[simp] theorem clearLR_returned (s : State) : (clearLR s).returned = s.returned := rfl

/-! ### clearCD -/

@[simp] theorem clearCD_dk (s : State) : (clearCD s).dk = s.dk := rfl
@[simp] theorem clearCD_dkv (s : State) : (clearCD s).dkv = s.dkv := rfl
@[simp] theorem clearCD_l (s : State) : (clearCD s).l = s.l := rfl
@[simp] theorem clearCD_r (s : State) : (clearCD s).r = s.r := rfl
@[simp] theorem clearCD_c (s : State) : (clearCD s).c = 0 := rfl
@[simp] theorem clearCD_d (s : State) : (clearCD s).d = 0 := rfl
@[simp] theorem clearCD_sr (s : State) : (clearCD s).sr = s.sr := rfl
@[simp] theorem clearCD_bf (s : State) : (clearCD s).bf = s.bf := rfl
@[simp] theorem clearCD_bfv (s : State) : (clearCD s).bfv = s.bfv := rfl
@[simp] theorem clearCD_xl (s : State) : (clearCD s).xl = s.xl := rfl
@[simp] theorem clearCD_xr (s : State) : (clearCD s).xr = s.xr := rfl
@[simp] theorem clearCD_last (s : State) : (clearCD s).last = s.last := rfl
@[simp] theorem clearCD_buf (s : State) : (clearCD s).buf = s.buf := rfl
@[simp] theorem clearCD_host (s : State) : (clearCD s).host = s.host := rfl
@[simp] theorem clearCD_returned (s : State) : (clearCD s).returned = s.returned := rfl

/-! ### clearSR -/

@[simp] theorem clearSR_dk (s : State) : (clearSR s).dk = s.dk := rfl
@[simp] theorem clearSR_dkv (s : State) : (clearSR s).dkv = s.dkv := rfl
@[simp] theorem clearSR_l (s : State) : (clearSR s).l = s.l := rfl
@[simp] theorem clearSR_r (s : State) : (clearSR s).r = s.r := rfl
@[simp] theorem clearSR_c (s : State) : (clearSR s).c = s.c := rfl
@[simp] theorem clearSR_d (s : State) : (clearSR s).d = s.d := rfl
@[simp] theorem clearSR_sr (s : State) : (clearSR s).sr = 0 := rfl
@[simp] theorem clearSR_bf (s : State) : (clearSR s).bf = s.bf := rfl
@[simp] theorem clearSR_bfv (s : State) : (clearSR s).bfv = s.bfv := rfl
@[simp] theorem clearSR_xl (s : State) : (clearSR s).xl = s.xl := rfl
@[simp] theorem clearSR_xr (s : State) : (clearSR s).xr = s.xr := rfl
@[simp] theorem clearSR_last (s : State) : (clearSR s).last = s.last := rfl
@[simp] theorem clearSR_buf (s : State) : (clearSR s).buf = s.buf := rfl
@[simp] theorem clearSR_host (s : State) : (clearSR s).host = s.host := rfl
@[simp] theorem clearSR_returned (s : State) : (clearSR s).returned = s.returned := rfl

/-! ### clearX -/

@[simp] theorem clearX_dk (s : State) : (clearX s).dk = s.dk := rfl
@[simp] theorem clearX_dkv (s : State) : (clearX s).dkv = s.dkv := rfl
@[simp] theorem clearX_l (s : State) : (clearX s).l = s.l := rfl
@[simp] theorem clearX_r (s : State) : (clearX s).r = s.r := rfl
@[simp] theorem clearX_c (s : State) : (clearX s).c = s.c := rfl
@[simp] theorem clearX_d (s : State) : (clearX s).d = s.d := rfl
@[simp] theorem clearX_sr (s : State) : (clearX s).sr = s.sr := rfl
@[simp] theorem clearX_bf (s : State) : (clearX s).bf = s.bf := rfl
@[simp] theorem clearX_bfv (s : State) : (clearX s).bfv = s.bfv := rfl
@[simp] theorem clearX_xl (s : State) : (clearX s).xl = 0 := rfl
@[simp] theorem clearX_xr (s : State) : (clearX s).xr = 0 := rfl
@[simp] theorem clearX_last (s : State) : (clearX s).last = s.last := rfl
@[simp] theorem clearX_buf (s : State) : (clearX s).buf = s.buf := rfl
@[simp] theorem clearX_host (s : State) : (clearX s).host = s.host := rfl
@[simp] theorem clearX_returned (s : State) : (clearX s).returned = s.returned := rfl

/-! ### resetCore -/

@[simp] theorem resetCore_dk (s : State) : (resetCore s).dk = Vector.replicate 16 0 := rfl
@[simp] theorem resetCore_dkv (s : State) : (resetCore s).dkv = false := rfl
@[simp] theorem resetCore_l (s : State) : (resetCore s).l = 0 := rfl
@[simp] theorem resetCore_r (s : State) : (resetCore s).r = 0 := rfl
@[simp] theorem resetCore_c (s : State) : (resetCore s).c = 0 := rfl
@[simp] theorem resetCore_d (s : State) : (resetCore s).d = 0 := rfl
@[simp] theorem resetCore_sr (s : State) : (resetCore s).sr = 0 := rfl
@[simp] theorem resetCore_bf (s : State) : (resetCore s).bf = bfKeyZero := rfl
@[simp] theorem resetCore_bfv (s : State) : (resetCore s).bfv = false := rfl
@[simp] theorem resetCore_xl (s : State) : (resetCore s).xl = 0 := rfl
@[simp] theorem resetCore_xr (s : State) : (resetCore s).xr = 0 := rfl
@[simp] theorem resetCore_last (s : State) : (resetCore s).last = 0 := rfl
@[simp] theorem resetCore_buf (s : State) : (resetCore s).buf = [] := rfl
@[simp] theorem resetCore_host (s : State) : (resetCore s).host = s.host := rfl
@[simp] theorem resetCore_returned (s : State) : (resetCore s).returned = s.returned := rfl

end Sys2Proof.Machine
end

