-- ==== Sys2Proof/Laws/Ops.lean ====
section
/-! SUPPORT. What each shared operation can do, said once: the checks, a command, the operand bounds. -/

namespace Sys2Proof.Machine

/-! ## The parameter -/

theorem bufSize_ge : 111 ≤ Config.bufSize := Nat.le_add_left _ _

theorem bufSize_le : Config.bufSize ≤ 2 ^ 31 - 1 := by
  have := Config.bufSizeAboveMin.isLt
  unfold Config.bufSize
  omega

/-! ## Operand bounds -/

/-- `CheckRegion`, in unbounded integers. -/
theorem regionOk_iff (off : Word) (n : Nat) :
    regionOk off n = true ↔ 0 ≤ off.toInt ∧ off.toInt + n ≤ Config.bufSize := by
  rw [regionOk, Bool.and_eq_true, Bool.not_eq_true', decide_eq_false_iff_not, decide_eq_true_eq, sint]
  omega

theorem regionOk_end {off : Word} {n : Nat} (h : regionOk off n = true) :
    regionStart off + n ≤ Config.bufSize := by
  have := (regionOk_iff off n).mp h
  simp only [regionStart, sint]
  omega

theorem desKeyLenOk_iff (len : BitVec 16) : desKeyLenOk len = true ↔ len.toNat = 8 := by
  simp [desKeyLenOk, uint, desKeyBytes]

theorem bfKeyLenOk_iff (len : BitVec 16) :
    bfKeyLenOk len = true ↔ 1 ≤ len.toNat ∧ len.toNat ≤ 72 := by
  rw [bfKeyLenOk, Bool.and_eq_true, decide_eq_true_eq, decide_eq_true_eq]
  rfl

theorem iterationsOk_iff (c : Word) : iterationsOk c = true ↔ 0 ≤ c.toInt := by
  rw [iterationsOk, decide_eq_true_eq, sint]

theorem saltOk_iff (d : Word) : saltOk d = true ↔ 0 ≤ d.toInt ∧ d.toInt ≤ 0xFFFFFF := by
  rw [saltOk, Bool.and_eq_true, decide_eq_true_eq, decide_eq_true_eq]
  rfl

theorem costOk_iff (c : Word) : costOk c = true ↔ 4 ≤ c.toInt ∧ c.toInt ≤ 31 := by
  rw [costOk, Bool.and_eq_true, decide_eq_true_eq, decide_eq_true_eq]
  rfl

theorem hostAddrOk_iff (addr : Nat) : hostAddrOk addr = true ↔ addr < Config.bufSize := by
  rw [hostAddrOk, decide_eq_true_eq]
  exact Nat.succ_le_iff

/-! ## Checks and commands -/

@[simp] theorem firstFault_nil : firstFault [] = none := rfl

theorem firstFault_cons (passes : Bool) (f : Completion) (checks : List (Bool × Completion)) :
    firstFault ((passes, f) :: checks) = if passes then firstFault checks else some f := rfl

theorem firstFault_eq_none_iff (checks : List (Bool × Completion)) :
    firstFault checks = none ↔ ∀ c ∈ checks, c.1 = true := by
  induction checks with
  | nil => simp
  | cons c checks ih =>
    obtain ⟨passes, f⟩ := c
    cases passes <;> simp [firstFault_cons, ih]

theorem firstFault_mem {checks : List (Bool × Completion)} {f : Completion}
    (h : firstFault checks = some f) : (false, f) ∈ checks := by
  induction checks with
  | nil => simp at h
  | cons c checks ih =>
    obtain ⟨passes, g⟩ := c
    cases passes
    · simp_all [firstFault_cons]
    · exact List.mem_cons_of_mem _ (ih (by simpa [firstFault_cons] using h))

/-- A command whose checks all pass completes with OK. -/
theorem runCommand_ok {checks : List (Bool × Completion)} (effect : State → State) (s : State)
    (h : firstFault checks = none) :
    runCommand checks effect s = .next (complete .ok (effect s)) := by
  simp [runCommand, h]

/-- A command whose first failing check names `f` leaves nothing but that fault's code. -/
theorem runCommand_fault {checks : List (Bool × Completion)} (effect : State → State) (s : State)
    {f : Completion} (h : firstFault checks = some f) :
    runCommand checks effect s = .next (raiseFault f s) := by
  simp [runCommand, h]

/-- Everything a command can do. -/
theorem runCommand_cases {checks : List (Bool × Completion)} {effect : State → State} {s : State}
    {o : Host.Outcome State Fault Refusal} (h : runCommand checks effect s = o) :
    (firstFault checks = none ∧ o = .next (complete .ok (effect s))) ∨
      ∃ f, firstFault checks = some f ∧ o = .next (raiseFault f s) := by
  subst h
  cases hc : firstFault checks with
  | none => exact .inl ⟨rfl, runCommand_ok effect s hc⟩
  | some f => exact .inr ⟨f, rfl, runCommand_fault effect s hc⟩

/-! ## What each effect leaves in `BUF` within its bounds -/

/-- A region write whose check passed keeps the canonical form and the bounds. -/
theorem writeRegion_bufLegal {s : State} (h : s.bufLegal) {off : Word} {bytes : List Byte}
    (hr : regionOk off bytes.length = true) : (writeRegion off bytes s).bufLegal := by
  refine ⟨Memory.writeBytes_wf h.1 _ _, fun c hc => ?_⟩
  rcases Memory.mem_writeBytes hc with hc | ⟨_, hlt⟩
  · exact h.2 c hc
  · have := regionOk_end hr
    omega

/-! ## The host port -/

theorem nextAction_nil {s : State} (h : s.host = []) : nextAction s = none := by
  simp [nextAction, h]

theorem nextAction_cons {s : State} {a : HostAction} {rest : List HostAction}
    (h : s.host = a :: rest) : nextAction s = some (a, { s with host := rest }) := by
  simp [nextAction, h]

/-- The next action is the head of the host's list, met with the rest still to happen. -/
theorem nextAction_eq_some {s t : State} {a : HostAction} (h : nextAction s = some (a, t)) :
    ∃ rest, s.host = a :: rest ∧ t = { s with host := rest } := by
  cases hs : s.host with
  | nil => simp [nextAction_nil hs] at h
  | cons b rest =>
    rw [nextAction_cons hs] at h
    simp only [Option.some.injEq, Prod.mk.injEq] at h
    exact ⟨rest, by rw [h.1], h.2.symm⟩

end Sys2Proof.Machine
end

