-- ==== Sys2Proof/Laws/Exec.lean ====
section
/-! SUPPORT. Every command as its checks and its effect (one lemma a constructor, by `rfl`), and what follows
from that alone for all commands: each ends with a next state, which is its effect or one fault's code. -/

namespace Sys2Proof.Machine

theorem exec_desKey (a : Word) (len : BitVec 16) (s : State) : exec (.desKey a len) s = runCommand
    [(desKeyLenOk len, .lengthViolation), (regionOk a desKeyBytes, .rangeViolation)]
    (desKeyEffect a) s := rfl

theorem exec_desEnc (a b : Word) (s : State) : exec (.desEnc a b) s = runCommand
    [(s.dkv, .invalidState), (regionOk a blockBytes, .rangeViolation),
      (regionOk b blockBytes, .rangeViolation)] (desEncEffect a b) s := rfl

theorem exec_desDec (a b : Word) (s : State) : exec (.desDec a b) s = runCommand
    [(s.dkv, .invalidState), (regionOk a blockBytes, .rangeViolation),
      (regionOk b blockBytes, .rangeViolation)] (desDecEffect a b) s := rfl

theorem exec_desCrypt (a iterations salt : Word) (s : State) :
    exec (.desCrypt a iterations salt) s = runCommand
      [(s.dkv, .invalidState), (iterationsOk iterations, .rangeViolation),
        (saltOk salt, .rangeViolation), (regionOk a blockBytes, .rangeViolation)]
      (desCryptEffect a iterations salt) s := rfl

theorem exec_desClr (s : State) : exec .desClr s = .next (complete .ok (eraseDesKey s)) := rfl

theorem exec_bfKey (a : Word) (len : BitVec 16) (s : State) : exec (.bfKey a len) s = runCommand
    [(bfKeyLenOk len, .rangeViolation), (regionOk a (uint len), .rangeViolation)]
    (bfKeyEffect a len) s := rfl

theorem exec_bfEnc (a b : Word) (s : State) : exec (.bfEnc a b) s = runCommand
    [(s.bfv, .invalidState), (regionOk a blockBytes, .rangeViolation),
      (regionOk b blockBytes, .rangeViolation)] (bfEncEffect a b) s := rfl

theorem exec_bfDec (a b : Word) (s : State) : exec (.bfDec a b) s = runCommand
    [(s.bfv, .invalidState), (regionOk a blockBytes, .rangeViolation),
      (regionOk b blockBytes, .rangeViolation)] (bfDecEffect a b) s := rfl

theorem exec_bfBcrypt (key : Word) (len : BitVec 16) (salt cost out : Word) (flags : Byte) (s : State) :
    exec (.bfBcrypt key len salt cost out flags) s = runCommand
      [(bfKeyLenOk len, .rangeViolation), (costOk cost, .rangeViolation),
        (regionOk key (uint len), .rangeViolation), (regionOk salt bcryptSaltBytes, .rangeViolation),
        (regionOk out bcryptLength, .rangeViolation)]
      (bfBcryptEffect key len salt cost out flags) s := rfl

theorem exec_bfClr (s : State) : exec .bfClr s = .next (complete .ok (eraseBfKey s)) := rfl

/-- The checks of a command in their order, and the fault each raises (`60_exceptions.md` R147, R148). -/
def checksOf (s : State) : Instr → List (Bool × Completion)
  | .desKey a len => [(desKeyLenOk len, .lengthViolation), (regionOk a desKeyBytes, .rangeViolation)]
  | .desEnc a b => [(s.dkv, .invalidState), (regionOk a blockBytes, .rangeViolation),
      (regionOk b blockBytes, .rangeViolation)]
  | .desDec a b => [(s.dkv, .invalidState), (regionOk a blockBytes, .rangeViolation),
      (regionOk b blockBytes, .rangeViolation)]
  | .desCrypt a iterations salt => [(s.dkv, .invalidState), (iterationsOk iterations, .rangeViolation),
      (saltOk salt, .rangeViolation), (regionOk a blockBytes, .rangeViolation)]
  | .desClr => []
  | .bfKey a len => [(bfKeyLenOk len, .rangeViolation), (regionOk a (uint len), .rangeViolation)]
  | .bfEnc a b => [(s.bfv, .invalidState), (regionOk a blockBytes, .rangeViolation),
      (regionOk b blockBytes, .rangeViolation)]
  | .bfDec a b => [(s.bfv, .invalidState), (regionOk a blockBytes, .rangeViolation),
      (regionOk b blockBytes, .rangeViolation)]
  | .bfBcrypt key len salt cost out _ => [(bfKeyLenOk len, .rangeViolation),
      (costOk cost, .rangeViolation), (regionOk key (uint len), .rangeViolation),
      (regionOk salt bcryptSaltBytes, .rangeViolation), (regionOk out bcryptLength, .rangeViolation)]
  | .bfClr => []

/-- What a command does when its checks pass, its completion code apart. -/
def effectOf : Instr → State → State
  | .desKey a _ => desKeyEffect a
  | .desEnc a b => desEncEffect a b
  | .desDec a b => desDecEffect a b
  | .desCrypt a iterations salt => desCryptEffect a iterations salt
  | .desClr => eraseDesKey
  | .bfKey a len => bfKeyEffect a len
  | .bfEnc a b => bfEncEffect a b
  | .bfDec a b => bfDecEffect a b
  | .bfBcrypt key len salt cost out flags => bfBcryptEffect key len salt cost out flags
  | .bfClr => eraseBfKey

/-- Every command is its checks and its effect. -/
theorem exec_eq (i : Instr) (s : State) : exec i s = runCommand (checksOf s i) (effectOf i) s := by
  cases i <;> rfl

/-- Everything a command can do: OK with its effect, or the code of its first failing check. -/
theorem exec_cases (i : Instr) (s : State) :
    (firstFault (checksOf s i) = none ∧ exec i s = .next (complete .ok (effectOf i s))) ∨
      ∃ f, firstFault (checksOf s i) = some f ∧ exec i s = .next (raiseFault f s) := by
  rw [exec_eq]
  exact runCommand_cases rfl

/-- Every command answers a next state. -/
theorem exec_next (i : Instr) (s : State) : ∃ t, exec i s = .next t := by
  rcases exec_cases i s with ⟨_, h⟩ | ⟨_, _, h⟩ <;> exact ⟨_, h⟩

/-- The faults a command raises: never OK, never the two reserved codes. -/
theorem checksOf_faults (i : Instr) (s : State) :
    ∀ c ∈ checksOf s i, c.2 ∈ [Completion.rangeViolation, .lengthViolation, .invalidState] := by
  cases i <;> simp [checksOf]

@[simp] theorem effectOf_host (i : Instr) (s : State) : (effectOf i s).host = s.host := by
  cases i <;> simp [effectOf, desKeyEffect, desEncEffect, desDecEffect, desCryptEffect, bfKeyEffect,
    bfEncEffect, bfDecEffect, bfBcryptEffect]

@[simp] theorem effectOf_returned (i : Instr) (s : State) :
    (effectOf i s).returned = s.returned := by
  cases i <;> simp [effectOf, desKeyEffect, desEncEffect, desDecEffect, desCryptEffect, bfKeyEffect,
    bfEncEffect, bfDecEffect, bfBcryptEffect]

end Sys2Proof.Machine
end

