-- ==== Sys2Proof/Laws/PerInstr.lean ====
section
/-! SUPPORT. Statements for all instructions, one lemma per constructor. -/

namespace Sys2Proof.Laws

/-- The descriptor of a command carries its own opcode in bits 7:0 and no other command's (`30_encoding.md`
R46, R48). -/
def EncodesOpcode.Statement (i : Instr) : Prop :=
  (Descriptor.ofBits (encode i)).opc = i.opcode.value

theorem EncodesOpcode.desKey (a : Word) (len : BitVec 16) :
    EncodesOpcode.Statement (.desKey a len) := by simp [EncodesOpcode.Statement, encode]

theorem EncodesOpcode.desEnc (a b : Word) : EncodesOpcode.Statement (.desEnc a b) := by
  simp [EncodesOpcode.Statement, encode]

theorem EncodesOpcode.desDec (a b : Word) : EncodesOpcode.Statement (.desDec a b) := by
  simp [EncodesOpcode.Statement, encode]

theorem EncodesOpcode.desCrypt (a iterations salt : Word) :
    EncodesOpcode.Statement (.desCrypt a iterations salt) := by
  simp [EncodesOpcode.Statement, encode]

theorem EncodesOpcode.desClr : EncodesOpcode.Statement .desClr := by
  simp [EncodesOpcode.Statement, encode]

theorem EncodesOpcode.bfKey (a : Word) (len : BitVec 16) :
    EncodesOpcode.Statement (.bfKey a len) := by simp [EncodesOpcode.Statement, encode]

theorem EncodesOpcode.bfEnc (a b : Word) : EncodesOpcode.Statement (.bfEnc a b) := by
  simp [EncodesOpcode.Statement, encode]

theorem EncodesOpcode.bfDec (a b : Word) : EncodesOpcode.Statement (.bfDec a b) := by
  simp [EncodesOpcode.Statement, encode]

theorem EncodesOpcode.bfBcrypt (key : Word) (len : BitVec 16) (salt cost out : Word) (flags : Byte) :
    EncodesOpcode.Statement (.bfBcrypt key len salt cost out flags) := by
  simp [EncodesOpcode.Statement, encode]

theorem EncodesOpcode.bfClr : EncodesOpcode.Statement .bfClr := by
  simp [EncodesOpcode.Statement, encode]

end Sys2Proof.Laws
end

