-- ==== Sys2Proof/Laws/Step.lean ====
section
/-! SUPPORT. Everything one step can do, said once. -/

namespace Sys2Proof.Machine

/-- A step that answers a next state: the core was idle, or it performed the head of the host's list. -/
theorem step_cases {s t : State} (h : step s = .next t) :
    (s.host = [] ∧ t = s) ∨
      ∃ a rest, s.host = a :: rest ∧ perform a { s with host := rest } = .next t := by
  cases hs : s.host with
  | nil =>
    rw [step, nextAction_nil hs] at h
    injection h with h
    exact .inl ⟨rfl, h.symm⟩
  | cons a rest =>
    rw [step, nextAction_cons hs] at h
    exact .inr ⟨a, rest, rfl, h⟩

/-- Everything a host action can do when it answers a next state. -/
theorem perform_cases {a : HostAction} {s t : State} (h : perform a s = .next t) :
    (∃ addr byte, a = .write addr byte ∧ hostAddrOk addr = true ∧
        t = { s with buf := s.buf.write addr byte }) ∨
      (∃ addr, a = .read addr ∧ hostAddrOk addr = true ∧
        t = { s with returned := .byte (s.buf.read addr) :: s.returned }) ∨
      (∃ w, a = .issue w ∧ issue w s = .next t) ∨
      (a = .readStatus ∧ t = { s with returned := .status (statusWord s) :: s.returned }) ∨
      ((a = .reset ∨ ∃ w, a = .resetDuring w) ∧ t = resetCore s) := by
  cases a with
  | write addr byte =>
    rw [perform, hostWrite] at h
    split at h
    · injection h with h
      exact .inl ⟨addr, byte, rfl, ‹_›, h.symm⟩
    · cases h
  | read addr =>
    rw [perform, hostRead] at h
    split at h
    · injection h with h
      exact .inr (.inl ⟨addr, rfl, ‹_›, h.symm⟩)
    · cases h
  | issue w => exact .inr (.inr (.inl ⟨w, rfl, h⟩))
  | readStatus =>
    injection h with h
    exact .inr (.inr (.inr (.inl ⟨rfl, h.symm⟩)))
  | reset =>
    injection h with h
    exact .inr (.inr (.inr (.inr ⟨.inl rfl, h.symm⟩)))
  | resetDuring w =>
    injection h with h
    exact .inr (.inr (.inr (.inr ⟨.inr ⟨w, rfl⟩, h.symm⟩)))

/-- A descriptor either selects a command or raises IllegalCommand. -/
theorem issue_cases (w : CommandWord) (s : State) :
    (∃ i, decode w = .ok i ∧ issue w s = exec i s) ∨
      (∃ e, decode w = .error e ∧ issue w s = .next (raiseFault .illegalCommand s)) := by
  cases h : decode w with
  | ok i => exact .inl ⟨i, rfl, by rw [issue, h]⟩
  | error e => exact .inr ⟨e, rfl, by rw [issue, h]; rfl⟩

end Sys2Proof.Machine
end

