-- ==== Sys2Proof/Tests/Slice0.lean ====
section
/-! SUPPORT. The model's own tests. Every expected value stands in `spec/` where the comment says; none was
taken from the model. The theorems `witness_O<n>...` give, for a statement with hypotheses, concrete values
that meet them, at the ends of each range. -/

namespace Sys2Proof.Tests

open Sys2Proof.Machine Sys2Proof.Spec

/-! ## Well-formedness: the one check of `WellFormed.lean` -/

theorem test_wellFormed_accepts_signbug :
    (Instr.bfBcrypt 0 2 16 5 32 1).wellFormed = true := by decide

theorem test_wellFormed_refuses_reserved_flag :
    (Instr.bfBcrypt 0 4 16 4 32 2).wellFormed = false := by decide

theorem test_wellFormed_refuses_top_flag :
    (Instr.bfBcrypt 0 4 16 4 32 0x80).wellFormed = false := by decide

/-! ## Decoding: words written out from the table of `30_encoding.md` R46, R48 and its section 5 -/

theorem test_decode_desKey :
    decode 0x00000000_00000000_00000000_00000010_00070001 = .ok (.desKey 16 7) := by decide

theorem test_decode_desEnc :
    decode 0x00000000_00000000_00000010_00000008_00000002 = .ok (.desEnc 8 16) := by decide

theorem test_decode_desDec :
    decode 0x00000000_00000000_00000018_00000010_00000003 = .ok (.desDec 16 24) := by decide

theorem test_decode_desCrypt :
    decode 0x000009E6_00000019_00000000_00000008_00000004 = .ok (.desCrypt 8 25 0x9E6) := by decide

theorem test_decode_desCrypt_negative :
    decode 0x00000000_FFFFFFFF_00000000_00000008_00000004 = .ok (.desCrypt 8 (-1) 0) := by decide

theorem test_decode_desClr :
    decode 0x00000000_00000000_00000000_00000000_00000005 = .ok .desClr := by decide

theorem test_decode_bfKey :
    decode 0x00000000_00000000_00000000_00000000_00080011 = .ok (.bfKey 0 8) := by decide

theorem test_decode_bfEnc :
    decode 0x00000000_00000000_00000008_00000008_00000012 = .ok (.bfEnc 8 8) := by decide

theorem test_decode_bfDec :
    decode 0x00000000_00000000_00000010_00000008_00000013 = .ok (.bfDec 8 16) := by decide

theorem test_decode_bfBcrypt :
    decode 0x00000020_00000004_00000010_00000000_00040014 = .ok (.bfBcrypt 0 4 16 4 32 0) := by
  decide

theorem test_decode_bfBcrypt_signbug :
    decode 0x00000020_00000005_00000010_00000000_00020114 = .ok (.bfBcrypt 0 2 16 5 32 1) := by
  decide

theorem test_decode_bfClr :
    decode 0x00000000_00000000_00000000_00000000_00000015 = .ok .bfClr := by decide

/-- The illegal examples of `30_encoding.md` section 5. -/
theorem test_decode_illegal :
    decode 0x00000000_00000000_00000000_00000000_00000000 = .error (.undefinedOpcode 0) ∧
    decode 0x00000000_00000000_00000000_00000000_00000006 = .error (.undefinedOpcode 6) ∧
    decode 0x00000000_00000001_00000000_00000000_00000002 = .error (.reservedFieldNonzero .desEnc) ∧
    decode 0x00000000_00000000_00000000_00000000_00000214 =
      .error (.reservedFieldNonzero .bfBcrypt) ∧
    decode 0x00000000_00000000_00000000_00000000_00080005 =
      .error (.reservedFieldNonzero .desClr) := by decide

theorem test_encode_bfBcrypt : encode (.bfBcrypt 0 2 16 5 32 1) =
    0x00000020_00000005_00000010_00000000_00020114 := by decide

theorem test_decodeTableWord : decodeTableWord 160 0x10_00000008_00000002 = some (.desEnc 8 16) := by
  decide

/-- The first step after reset runs the word that was placed. -/
theorem test_withFetchWord (w : Nat) :
    step (State.reset.withFetchWord 160 w) = issue (tableWord 160 w) State.reset := rfl

/-! ## DES tables and primitives (`40_des_primitives.md`, `95_test_vectors.md` sections 3.1, 3.5) -/

/-- The flat S-boxes of R66, entry 0 the most significant digit. -/
theorem test_sbox_flat :
    (List.range 8).map (fun k => (List.range 64).foldl (fun acc g =>
      acc * 16 + (sboxLookup (desSboxes.getD k (Vector.replicate 64 0)) (BitVec.ofNat 6 g)).toNat) 0) =
    [0xE04FD7142EF2BD813AA66CCB599503784F1CE882D46921B7F5CB937E3AA0560D,
     0xF31D84E76FB2384E9C7021DAC6095BA50DE87AB1A34FD4125B86C76C90352EF9,
     0xAD0790E96334F65A12D8C57EBC4B2F81D16A4D9086F93807B41F2EC35BA5E27C,
     0x7DD8EB35066F90A31427825CB1CA4EF9A36F9006CAB17DD8F91435EB5C27824E,
     0x2ECB421C74A7BD6185503FFAD309E8964B281CB7A1DE728DF69FC0596A3405E3,
     0xCA1FA4F2972C698506D13D4EE07B53B894E3F25C2985CF3A7B0E41A716D0B86D,
     0x4DB02BE7F40981DA3EC3957C52AF6816164BBDD8C1347AE7A9F5608F0E52932C,
     0xD12F8D486AF3B714AC9536EB500EC97272B14E1794CAE82D0F6CA9D0F335568B] := by decide +kernel

theorem test_initialHalves : initialHalves 0x0123456789ABCDEF = (0xCC00CCFF, 0xF0AAF0AA) := by
  decide +kernel

theorem test_expansion : (permute 48 (0x12345678 : Word) tableE : Subkey) = 0x0A41A82AC3F0 := by
  decide +kernel

theorem test_desF_unsalted : desF 0xF0AAF0AA 0x1B02EFFC7072 0 = 0x234AA9BB := by decide +kernel

theorem test_desF_salted : desF 0xEF4A6544 0x79AED9DBC9E5 0x679000 = 0x4D8727A9 := by decide +kernel

theorem test_bitrev24 : bitrev24 0x123456 = 0x6A2C48 := by decide

/-! ## The commands on small states -/

/-- A state with bytes placed in `BUF`. -/
def withBytes (addr : Nat) (bytes : List Byte) (s : State) : State :=
  { s with buf := s.buf.writeBytes addr bytes }

/-- The next state of a command (the state before it, where there is none). -/
def after (i : Instr) (s : State) : State :=
  match exec i s with
  | .next t => t
  | .fault _ => s
  | .refused _ => s

/-- The DES unit loaded with the key of `95_test_vectors.md` section 3.2. -/
def desKeyed : State := { State.reset with dk := desSchedule 0x133457799BBCDFF1, dkv := true }

/-- The Blowfish unit holding the initial constants: for checking the functions only
(`95_test_vectors.md` section 4.1). -/
def bfKeyed : State := withBf bfInitKey true State.reset

/-- `95_test_vectors.md` section 3.3 and program P1. -/
theorem test_desKey_result :
    let t := after (.desKey 0 8)
      (withBytes 0 [0x13, 0x34, 0x57, 0x79, 0x9B, 0xBC, 0xDF, 0xF1] State.reset)
    (t.dk[0], t.dk[15], t.last, statusWord t) =
      (0x1B02EFFC7072, 0xCB3D8B0E17F5, 0, 0x00000001) := by decide +kernel

/-- `95_test_vectors.md` section 7 row 3: the length is checked before the region. -/
theorem test_desKey_length_first : (after (.desKey (-1) 7) State.reset).last = 4 := by decide +kernel

/-- `95_test_vectors.md` section 3.2. -/
theorem test_desEnc_result :
    (after (.desEnc 8 16) (withBytes 8 [0x01, 0x23, 0x45, 0x67, 0x89, 0xAB, 0xCD, 0xEF]
      desKeyed)).buf.readBytes 16 8 = [0x85, 0xE8, 0x13, 0x54, 0x0F, 0x0A, 0xB4, 0x05] := by
  decide +kernel

/-- `95_test_vectors.md` section 7 row 2: state before regions. -/
theorem test_desEnc_state_first : (after (.desEnc (-1) 0) State.reset).last = 5 := by decide +kernel

/-- `95_test_vectors.md` section 3.4. -/
theorem test_desDec_result :
    (after (.desDec 8 8) desKeyed).buf.readBytes 8 8 =
      [0x9E, 0xFD, 0xFC, 0x5C, 0x2B, 0x5C, 0xD5, 0x85] := by decide +kernel

/-- `95_test_vectors.md` section 3.6. -/
theorem test_desCrypt_result :
    (after (.desCrypt 8 1 0x9E6) (withBytes 8 [0x01, 0x23, 0x45, 0x67, 0x89, 0xAB, 0xCD, 0xEF]
      desKeyed)).buf.readBytes 8 8 = [0xA8, 0xD6, 0x0A, 0xEF, 0xBA, 0x37, 0x01, 0xDC] := by
  decide +kernel

/-- `95_test_vectors.md` section 7 rows 6 and 7. -/
theorem test_desCrypt_bounds : (after (.desCrypt 0 (-1) 0) desKeyed).last = 3 ∧
    (after (.desCrypt 0 1 0x1000000) desKeyed).last = 3 := by decide +kernel

/-- `41_des_key_schedule.md` R81. -/
theorem test_desClr : (after .desClr desKeyed).dk[0] = 0 ∧ (after .desClr desKeyed).dkv = false := by
  decide +kernel

/-- `95_test_vectors.md` section 7 rows 13 and 14. -/
theorem test_bfKey_length : (after (.bfKey 0 0) State.reset).last = 3 ∧
    (after (.bfKey 0 73) State.reset).last = 3 := by decide +kernel

/-- The first block of a zero key's expansion (`95_test_vectors.md` section 4.2: `BP[0]`, `BP[1]`). -/
theorem test_bfKey_first_block :
    let t := expandP noSalt ⟨bfInitKey, 0, 0, 0⟩ 0
    (t.key.bp[0], t.key.bp[1], t.key.bp[2], t.j) = (0x706D9FCC, 0x1792D23A, 0x13198A2E, 2) := by
  decide +kernel

/-- `95_test_vectors.md` section 4.1. -/
theorem test_bfEnc_result : (after (.bfEnc 0 8) bfKeyed).buf.readBytes 8 8 =
    [0x70, 0x6D, 0x9F, 0xCC, 0x17, 0x92, 0xD2, 0x3A] := by decide +kernel

/-- `95_test_vectors.md` section 7 row 16: a loaded DES key does not help. -/
theorem test_bfEnc_needs_its_own_key : (after (.bfEnc 0 8) desKeyed).last = 5 := by decide +kernel

/-- `95_test_vectors.md` section 4.1. -/
theorem test_bfDec_result :
    (after (.bfDec 0 0) (withBytes 0 [0x70, 0x6D, 0x9F, 0xCC, 0x17, 0x92, 0xD2, 0x3A] bfKeyed)).buf =
      [] := by decide +kernel

/-- `95_test_vectors.md` section 7 rows 17 and 18. -/
theorem test_bfBcrypt_cost : (after (.bfBcrypt 0 4 16 3 32 0) bfKeyed).last = 3 ∧
    (after (.bfBcrypt 0 4 16 32 32 0) bfKeyed).last = 3 := by decide +kernel

/-- `46_bf_bcrypt.md` R121: the six words are the 24 ASCII bytes. -/
theorem test_bcryptText : bcryptText.flatMap (fun t => bytesBe 4 t.1 ++ bytesBe 4 t.2) =
    [0x4F, 0x72, 0x70, 0x68, 0x65, 0x61, 0x6E, 0x42, 0x65, 0x68, 0x6F, 0x6C,
     0x64, 0x65, 0x72, 0x53, 0x63, 0x72, 0x79, 0x44, 0x6F, 0x75, 0x62, 0x74] := by decide +kernel

/-- `45_bf_key_schedule.md` R114. -/
theorem test_bfClr : (after .bfClr bfKeyed).bf.bs[3][255] = 0 ∧ (after .bfClr bfKeyed).bfv = false := by
  decide +kernel

/-- `47_bf_constants.md` R131: the exclusive or and the sum of each group of constants. -/
theorem test_bf_constants :
    [bfPInit.toList, bfSInit0.toList, bfSInit1.toList, bfSInit2.toList, bfSInit3.toList].map
      (fun l => (l.foldl (· ^^^ ·) 0, l.foldl (· + ·) 0)) =
    [(0xB73AD7EA, 0x8E4D14CC), (0x4EB4DB7F, 0x4B745115), (0xC727E122, 0x72FF37B2),
     (0x462A5D01, 0x2AC02B91), (0x1779E2BC, 0xF43E3A88)] := by decide +kernel

/-- `95_test_vectors.md` section 4.4. -/
theorem test_streamWords : (streamWords [1, 2, 3, 4, 5] 3 false).toList =
      [0x01020304, 0x05010203, 0x04050102] ∧
    (streamWords [0x01, 0xA3, 0x02, 0x03] 2 true).toList = [0xFFA30203, 0xFFA30203] := by
  decide +kernel

/-! ## Witnesses: values that meet the hypotheses of the statements, clause by clause -/

/-- The last offset at which a region of n bytes fits `BUF`. -/
def lastOff (n : Nat) : Word := BitVec.ofNat 32 (Config.bufSize - n)

theorem lastOff_toInt {n : Nat} (h : n ≤ 111) : (lastOff n).toInt = Config.bufSize - n := by
  have := bufSize_ge
  have := bufSize_le
  have h2 : (lastOff n).toNat = Config.bufSize - n := by
    rw [lastOff, BitVec.toNat_ofNat, Nat.mod_eq_of_lt (by omega)]
  rw [BitVec.toInt_eq_toNat_of_lt (by omega), h2]
  omega

theorem inside_last {n : Nat} (h : n ≤ 111) : inside (lastOff n) n := by
  have := bufSize_ge
  rw [inside, lastOff_toInt h]
  omega

/-- One byte further on the region no longer fits. -/
theorem outside_last {n : Nat} (h : n ≤ 110) : ¬ inside (lastOff n) (n + 1) := by
  rw [inside, lastOff_toInt (by omega)]
  omega

theorem inside_first {n : Nat} (h : n ≤ 111) : inside 0 n := by
  have := bufSize_ge
  rw [inside, show (0 : Word).toInt = 0 from rfl]
  omega

theorem outside_negative (n : Nat) : ¬ inside (-1) n := fun h => absurd h.1 (by decide)

theorem outside_most_negative (n : Nat) : ¬ inside 0x80000000 n := fun h => absurd h.1 (by decide)

/-- The clauses on one region of n bytes: the first and the last offset inside, the next one and the negative
ones outside. -/
theorem region_ends {n : Nat} (h : n + 1 ≤ 111) :
    inside 0 (n + 1) ∧ inside (lastOff (n + 1)) (n + 1) ∧ ¬ inside (lastOff n) (n + 1) ∧
      ¬ inside (-1) (n + 1) ∧ ¬ inside 0x80000000 (n + 1) :=
  ⟨inside_first h, inside_last h, outside_last (by omega), outside_negative _,
    outside_most_negative _⟩

/-- A state whose host issues one descriptor. -/
def issuing (w : CommandWord) (s : State) : State := { s with host := [.issue w] }

theorem reset_inv : State.reset.Inv :=
  ⟨by decide, ⟨fun _ => rfl, fun _ => rfl⟩, by decide,
    ⟨⟨List.Pairwise.nil, by simp [State.reset]⟩, by simp [State.reset]⟩⟩

theorem witness_O1_keyless : State.reset.dkv = false ∧ State.reset.bfv = false := ⟨rfl, rfl⟩

theorem witness_O3_StepKeepsInvariant :
    (issuing (encode (.desEnc 0 8)) State.reset).Inv ∧
      step (issuing (encode (.desEnc 0 8)) State.reset) = .next (ended 5 State.reset) :=
  ⟨⟨reset_inv.1, reset_inv.2, reset_inv.3, reset_inv.4⟩, rfl⟩

theorem witness_O4_LegalHostListRunsToItsEnd :
    State.hostLegal { State.reset with host :=
      [.write (Config.bufSize - 1) 0xFF, .read 0, .issue 0, .readStatus, .resetDuring 1, .reset] } := by
  have := bufSize_ge
  simp only [State.hostLegal, List.forall_mem_cons, HostAction.reachesCore, hostAddrOk_iff]
  refine ⟨?_, ?_, trivial, trivial, trivial, trivial, by simp⟩ <;> omega

theorem witness_O5_StepIssuesDecodedCommand :
    (issuing 0x15 State.reset).host = [.issue 0x15] ∧ decode 0x15 = .ok .bfClr := by decide

theorem witness_O6_unmatched : (issuing 6 State.reset).host = [.issue 6] ∧
    ∀ o ∈ opcodes, o.selectedBy 6 = false := by decide

theorem witness_O6_undefined_opcodes :
    [(0x00 : Byte), 0x06, 0x10, 0x16, 0xFF].map opcodeOf = [none, none, none, none, none] := by decide

theorem witness_O6_reserved_fields :
    Opcode.reservedZero ⟨0x02, 0, 0, 0, 8, 1, 0⟩ .desEnc = false ∧
    Opcode.reservedZero ⟨0x14, 0x02, 4, 0, 16, 4, 32⟩ .bfBcrypt = false ∧
    Opcode.reservedZero ⟨0x14, 0x80, 4, 0, 16, 4, 32⟩ .bfBcrypt = false ∧
    Opcode.reservedZero ⟨0x15, 0, 1, 0, 0, 0, 0⟩ .bfClr = false := by decide

theorem witness_O7_rows_match :
    Opcode.desKey.selectedBy 0x00080001 = true ∧ Opcode.desClr.selectedBy 0x05 = true ∧
    Opcode.bfBcrypt.selectedBy 0x00000020_00000004_00000010_00000000_00040014 = true ∧
    Opcode.bfBcrypt.selectedBy 0xFFFFFFFF_FFFFFFFF_FFFFFFFF_FFFFFFFF_FFFF0114 = true ∧
    ∀ o ∈ opcodes, o.selectedBy 0x00080005 = false := by decide

theorem witness_O8_DecodeEncodeRoundTrip :
    (Instr.desCrypt (-1) 0x7FFFFFFF 0xFFFFFF).wellFormed = true ∧
    (Instr.bfBcrypt 0 72 0 31 0 0).wellFormed = true ∧
    (Instr.bfBcrypt (-1) 0xFFFF (-1) (-1) (-1) 1).wellFormed = true := by decide

theorem witness_O9_EncodeDecodeRoundTrip :
    decode 0xFFFFFFFF_FFFFFFFF_FFFFFFFF_FFFFFFFF_FFFF0114 =
      .ok (.bfBcrypt (-1) 0xFFFF (-1) (-1) (-1) 1) := by decide

/-- The last byte of `BUF` can be written and read. -/
theorem witness_O11_host_accesses : ∃ t u : State,
    hostWrite (Config.bufSize - 1) 0xA5 State.reset = .next t ∧
    hostRead (Config.bufSize - 1) State.reset = .next u := by
  have := bufSize_ge
  have h : hostAddrOk (Config.bufSize - 1) = true := (hostAddrOk_iff _).mpr (by omega)
  exact ⟨_, _, if_pos h, if_pos h⟩

theorem witness_O11_status_read :
    State.host { State.reset with host := [.readStatus] } = [.readStatus] := rfl

theorem witness_O12_HostAccessInsideBuf :
    State.reset.buf.wf ∧ 0 < Config.bufSize ∧ Config.bufSize - 1 < Config.bufSize ∧
      State.host { State.reset with host := [.write (Config.bufSize - 1) 0] } =
        [.write (Config.bufSize - 1) 0] ∧
      State.host { State.reset with host := [.read 0] } = [.read 0] := by
  have := bufSize_ge
  exact ⟨reset_inv.bufLegal.1, by omega, by omega, rfl, rfl⟩

theorem witness_O13_HostAccessOutsideBufStops : Config.bufSize ≤ Config.bufSize ∧
    State.host { State.reset with host := [.write Config.bufSize 0] } = [.write Config.bufSize 0] ∧
    State.host { State.reset with host := [.read Config.bufSize] } = [.read Config.bufSize] :=
  ⟨le_rfl, rfl, rfl⟩

theorem witness_O14_ResetActionClearsTheCore :
    State.host { desKeyed with host := [.reset] } = [.reset] ∧
    State.host { desKeyed with host := [.resetDuring 0x05] } = [.resetDuring 0x05] := ⟨rfl, rfl⟩

theorem witness_O16_FaultLeavesOnlyItsCode :
    issue 0x06 desKeyed = .next (ended 6 desKeyed) ∧ (ended 6 desKeyed).last ≠ 0 :=
  ⟨rfl, by decide⟩

theorem witness_O18_O19_bytes : ([1, 2, 3, 4, 5, 6, 7, 0xFF] : List Byte).length = 8 ∧
    ([0, 0, 0, 0x80] : List Byte).length = 4 := by decide

theorem witness_O18_O20_positions : (1 ≤ 1 ∧ 1 ≤ 64) ∧ (1 ≤ 64 ∧ 64 ≤ 64) := by decide

theorem witness_O21_O22_salt_bits : 0 < 24 ∧ 23 < 24 := by decide

theorem witness_O24_rotations : (0 < 15 ∧ 14 < 15) ∧ ((1 = 1 ∨ 1 = 2) ∧ (2 = 1 ∨ 2 = 2)) := by decide

/-- Two keys that differ in every low bit and in no other. -/
theorem witness_O26_parity : ∀ i < 64, i % 8 ≠ 0 →
    (0x0000000000000000 : Block).getLsbD i = (0x0101010101010101 : Block).getLsbD i := by decide

theorem witness_O26_region : inside 0 8 ∧ inside (lastOff 8) 8 :=
  ⟨inside_first (by omega), inside_last (by omega)⟩

theorem witness_O27_DesKeyLoadsTheSchedule :
    ((8 : BitVec 16).toNat = 8 ∧ inside 0 8 ∧ inside (lastOff 8) 8) ∧
    ((0 : BitVec 16).toNat ≠ 8 ∧ (7 : BitVec 16).toNat ≠ 8 ∧ (9 : BitVec 16).toNat ≠ 8 ∧
      (0xFFFF : BitVec 16).toNat ≠ 8) ∧
    (¬ inside (lastOff 7) 8 ∧ ¬ inside (-1) 8) :=
  ⟨⟨by decide, inside_first (by omega), inside_last (by omega)⟩, by decide, outside_last (by omega),
    outside_negative _⟩

/-- Key loaded or not; the regions of the block commands at both ends of `BUF` and just outside. -/
theorem witness_O29_O30_des_block : desKeyed.dkv = true ∧ State.reset.dkv = false ∧
    inside 0 8 ∧ inside (lastOff 8) 8 ∧ ¬ inside (lastOff 7) 8 ∧ ¬ inside (-1) 8 ∧
    ¬ inside 0x80000000 8 := ⟨rfl, rfl, region_ends (by omega)⟩

theorem witness_O32_DesCommandsRoundTrip : desKeyed.buf.wf ∧ desKeyed.dkv = true ∧
    inside 0 8 ∧ inside 4 8 ∧ inside (lastOff 8) 8 := by
  have := bufSize_ge
  refine ⟨reset_inv.bufLegal.1, rfl, inside_first (by omega), ⟨by decide, ?_⟩, inside_last (by omega)⟩
  rw [show (4 : Word).toInt = 4 from rfl]
  omega

theorem witness_O33_completes : desKeyed.dkv = true ∧
    (0 ≤ (0 : Word).toInt ∧ 0 ≤ (0x7FFFFFFF : Word).toInt) ∧
    (0 ≤ (0 : Word).toInt ∧ (0xFFFFFF : Word).toInt ≤ 0xFFFFFF ∧ 0 ≤ (0xFFFFFF : Word).toInt) ∧
    inside 0 8 ∧ inside (lastOff 8) 8 :=
  ⟨rfl, by decide, by decide, inside_first (by omega), inside_last (by omega)⟩

theorem witness_O33_faults : State.reset.dkv = false ∧ desKeyed.dkv = true ∧
    (-1 : Word).toInt < 0 ∧ (0x80000000 : Word).toInt < 0 ∧ 0xFFFFFF < (0x1000000 : Word).toInt ∧
    ¬ inside (lastOff 7) 8 :=
  ⟨rfl, rfl, by decide, by decide, by decide, outside_last (by omega)⟩

theorem witness_O35_CryptZeroIterationsLeavesBuf : desKeyed.buf.wf ∧ desKeyed.dkv = true ∧
    inside (lastOff 8) 8 ∧ 0 ≤ (0xFFFFFF : Word).toInt ∧ (0xFFFFFF : Word).toInt ≤ 0xFFFFFF :=
  ⟨reset_inv.bufLegal.1, rfl, inside_last (by omega), by decide, by decide⟩

theorem witness_O36_CryptOnceUnsaltedIsEncipher : desKeyed.sr = 0 ∧ State.reset.sr = 0 := ⟨rfl, rfl⟩

theorem witness_O39_O40_bf_block : bfKeyed.bfv = true ∧ desKeyed.bfv = false ∧
    inside 0 8 ∧ inside (lastOff 8) 8 ∧ ¬ inside (lastOff 7) 8 ∧ ¬ inside (-1) 8 ∧
    ¬ inside 0x80000000 8 := ⟨rfl, rfl, region_ends (by omega)⟩

theorem witness_O41_BfCommandsRoundTrip : bfKeyed.buf.wf ∧ bfKeyed.bfv = true ∧
    inside 0 8 ∧ inside (lastOff 8) 8 :=
  ⟨reset_inv.bufLegal.1, rfl, inside_first (by omega), inside_last (by omega)⟩

theorem witness_O42_StreamWords : ([0xFF] : List Byte) ≠ [] ∧
    ∀ b ∈ ([0x00, 0x7F] : List Byte), b.toNat < 0x80 := by decide

theorem witness_O44_completes : (1 ≤ (1 : BitVec 16).toNat ∧ (1 : BitVec 16).toNat ≤ 72) ∧
    (1 ≤ (72 : BitVec 16).toNat ∧ (72 : BitVec 16).toNat ≤ 72) ∧
    inside (lastOff 1) (1 : BitVec 16).toNat ∧ inside (lastOff 72) (72 : BitVec 16).toNat :=
  ⟨by decide, by decide, inside_last (by decide), inside_last (by decide)⟩

theorem witness_O44_faults : (0 : BitVec 16).toNat < 1 ∧ 72 < (73 : BitVec 16).toNat ∧
    72 < (0xFFFF : BitVec 16).toNat ∧ ¬ inside (lastOff 71) (72 : BitVec 16).toNat :=
  ⟨by decide, by decide, by decide, outside_last (by decide)⟩

theorem witness_O46_EqualCyclicKeys : (∀ i, i < 72 →
    ([1, 2] : List Byte).getD (i % 2) 0 = ([1, 2, 1, 2] : List Byte).getD (i % 4) 0) ∧
    (List.replicate 36 (0x41 : Byte)).length ≤ 36 ∧ ([0x41] : List Byte) ≠ [] := by decide

theorem witness_O47_salt : (List.replicate 16 (0xFF : Byte)).length = 16 := by decide

theorem witness_O48_completes : ((0 : Byte).toNat < 2 ∧ (1 : Byte).toNat < 2) ∧
    (1 ≤ (1 : BitVec 16).toNat ∧ (72 : BitVec 16).toNat ≤ 72) ∧
    (4 ≤ (4 : Word).toInt ∧ (31 : Word).toInt ≤ 31) ∧
    inside (lastOff 72) (72 : BitVec 16).toNat ∧ inside (lastOff 16) 16 ∧ inside (lastOff 23) 23 :=
  ⟨by decide, by decide, by decide, inside_last (by decide), inside_last (by omega),
    inside_last (by omega)⟩

theorem witness_O48_faults : ((0 : Byte).toNat < 2 ∧ (1 : Byte).toNat < 2) ∧ (0 : BitVec 16).toNat < 1 ∧ 72 < (73 : BitVec 16).toNat ∧
    (3 : Word).toInt < 4 ∧ (-1 : Word).toInt < 4 ∧ 31 < (32 : Word).toInt ∧
    ¬ inside (lastOff 71) (72 : BitVec 16).toNat ∧ ¬ inside (lastOff 15) 16 ∧
    ¬ inside (lastOff 22) 23 :=
  ⟨by decide, by decide, by decide, by decide, by decide, by decide, outside_last (by decide),
    outside_last (by omega), outside_last (by omega)⟩

theorem witness_O49_keys : ∀ b ∈ ([0x61, 0x7F, 0x00] : List Byte), b.toNat < 0x80 := by decide

/-- `BF.BCRYPT` with the least operands completes with OK. -/
theorem bfBcrypt_completes (s : State) :
    ∃ t, exec (.bfBcrypt 0 1 0 4 0 1) s = .next t ∧ t.last = 0 := by
  refine ⟨_, (exec_bfBcrypt _ _ _ _ _ _ s).trans
    (runCommand_ok _ _ ((firstFault_eq_none_iff _).mpr ?_)), complete_last _ _⟩
  simp only [List.forall_mem_cons, bfKeyLenOk_iff, costOk_iff, regionOk_iff]
  exact ⟨by decide, by decide, inside_first (by decide), inside_first (by decide),
    inside_first (by decide), by simp⟩

theorem witness_O50_BcryptDestroysTheBlowfishKey :
    ∃ t, exec (.bfBcrypt 0 1 0 4 0 1) bfKeyed = .next t ∧ t.last = 0 := bfBcrypt_completes bfKeyed

theorem bfKey_completes (s : State) :
    ∃ t, exec (.bfKey 0 72) s = .next t ∧ t.last = 0 := by
  refine ⟨_, (exec_bfKey _ _ s).trans
    (runCommand_ok _ _ ((firstFault_eq_none_iff _).mpr ?_)), complete_last _ _⟩
  simp only [List.forall_mem_cons, bfKeyLenOk_iff, regionOk_iff]
  exact ⟨by decide, inside_first (by decide), by simp⟩

theorem witness_O51_BcryptEndsALoadedKey : ∃ t u,
    (exec (.bfKey 0 72) State.reset = .next t ∧ t.last = 0) ∧
    (exec (.bfBcrypt 0 1 0 4 0 1) t = .next u ∧ u.last = 0) := by
  obtain ⟨t, ht⟩ := bfKey_completes State.reset
  obtain ⟨u, hu⟩ := bfBcrypt_completes t
  exact ⟨t, u, ht, hu⟩

/-- Both clauses on the units have an instance in which the command completes with OK. -/
theorem witness_O51_units_complete : exec .bfClr desKeyed = .next (ended 0 { desKeyed with
      bf := bfKeyZero, bfv := false }) ∧ ofBlowfishUnit .bfClr = true ∧
    exec .desClr bfKeyed = .next (ended 0 { bfKeyed with
      dk := Vector.replicate 16 0, dkv := false }) ∧ ofBlowfishUnit .desClr = false :=
  ⟨rfl, by decide, rfl, by decide⟩

theorem witness_O51_units : ofBlowfishUnit (.bfEnc 0 8) = true ∧ ofBlowfishUnit (.desEnc 0 8) = false ∧
    exec (.bfEnc 0 8) State.reset = .next (ended 5 State.reset) := ⟨by decide, by decide, rfl⟩

theorem witness_O52_KeyCommandsReplaceTheKey : desKeyed.buf = State.reset.buf ∧
    (8 : BitVec 16).toNat = 8 ∧ inside (lastOff 8) 8 ∧
    1 ≤ (72 : BitVec 16).toNat ∧ (72 : BitVec 16).toNat ≤ 72 ∧
    inside (lastOff 72) (72 : BitVec 16).toNat :=
  ⟨rfl, by decide, inside_last (by omega), by decide, by decide, inside_last (by decide)⟩

theorem witness_O53_FailedKeyCommandKeepsTheOldKey :
    (exec (.desKey 0 7) desKeyed = .next (ended 4 desKeyed) ∧ (ended 4 desKeyed).last ≠ 0) ∧
    (exec (.bfKey 0 0) bfKeyed = .next (ended 3 bfKeyed) ∧ (ended 3 bfKeyed).last ≠ 0) ∧
    desKeyed.dkv = true ∧ inside 0 8 ∧ inside (lastOff 8) 8 :=
  ⟨⟨rfl, by decide⟩, ⟨rfl, by decide⟩, rfl, inside_first (by omega), inside_last (by omega)⟩

theorem witness_O54_UnitsAreIndependent : ofBlowfishUnit (.desCrypt 0 1 0) = false ∧
    ofBlowfishUnit .desClr = false ∧ ofBlowfishUnit (.bfBcrypt 0 1 0 4 0 1) = true ∧
    ofBlowfishUnit .bfClr = true := by decide

/-- Two buffers that differ, and only outside the region read. -/
theorem witness_O55_CommandsReachOnlyTheirRegions :
    Memory.wf [] ∧ Memory.wf [(8, 1)] ∧
    ∀ addr, inRegions (regionsRead (.desEnc 0 8)) addr →
      Memory.read [] addr = Memory.read [(8, 1)] addr := by
  refine ⟨⟨List.Pairwise.nil, by simp⟩, ⟨List.pairwise_singleton _ _, by simp⟩, ?_⟩
  rintro addr ⟨r, hr, _, hlt⟩
  simp only [regionsRead, List.mem_singleton] at hr
  subst hr
  have : addr < 8 := by simpa [regionStart, sint] using hlt
  simp only [Memory.read]
  rw [if_neg (by omega)]

theorem witness_O56_RegistersWrittenByEachCommand :
    exec .bfClr desKeyed = .next (ended 0 { desKeyed with
      bf := ⟨Vector.replicate 18 0, Vector.replicate 4 (Vector.replicate 256 0)⟩
      bfv := false }) ∧
    Instr.bfClr.opcode ∉ [Opcode.desKey, .desClr] ∧
    (Instr.desEnc 0 8).opcode ∉ [Opcode.bfKey, .bfBcrypt, .bfClr] ∧
    Instr.bfClr.opcode ∈ [Opcode.desKey, .desClr, .bfKey, .bfClr] :=
  ⟨rfl, by decide, by decide, by decide⟩

theorem witness_O57_CommandsAfterReset : inside (lastOff 8) 8 ∧
    (1 ≤ (72 : BitVec 16).toNat ∧ (72 : BitVec 16).toNat ≤ 72) ∧
    inside (lastOff 72) (72 : BitVec 16).toNat ∧ (4 ≤ (31 : Word).toInt ∧ (31 : Word).toInt ≤ 31) ∧
    inside (lastOff 16) 16 ∧ inside (lastOff 23) 23 ∧
    ([.issue 0] : List HostAction) = .issue 0 :: [] :=
  ⟨inside_last (by omega), by decide, inside_last (by decide), by decide, inside_last (by omega),
    inside_last (by omega), rfl⟩

theorem witness_O58_NoWorkingMaterialRemains : desKeyed.workingClear ∧ bfKeyed.workingClear := by
  exact ⟨⟨rfl, rfl, rfl, rfl, rfl, rfl, rfl⟩, ⟨rfl, rfl, rfl, rfl, rfl, rfl, rfl⟩⟩

end Sys2Proof.Tests
end

section
/-! The facts about `STATUS`, about who writes `LAST` and about a command whose first check fails, and the two
statements of `10_state.md` they settle. -/

namespace Sys2Proof.Machine

/-! ## The fields of `STATUS` -/

/-- Every bit of `STATUS` at once: the three fields of R15, and 0 everywhere else. -/
theorem getLsbD_statusWord (s : State) (i : Nat) :
    (statusWord s).getLsbD i =
      if i = 0 then s.dkv else if i = 1 then s.bfv
      else decide (4 ≤ i ∧ i < 8) && s.last.getLsbD (i - 4) := by
  rcases Nat.lt_or_ge i 8 with hi | hi
  · interval_cases i <;> simp only [statusWord, getLsbD_cat] <;> simp
  · have h0 : i ≠ 0 := by omega
    have h1 : i ≠ 1 := by omega
    have h8 : ¬ i < 8 := by omega
    simp only [statusWord, getLsbD_cat]
    simp [h0, h1, h8]

theorem statusWord_lastField (s : State) : (statusWord s).extractLsb' 4 4 = s.last := by
  refine BitVec.eq_of_getLsbD_eq fun i hi => ?_
  have h1 : 4 + i ≠ 1 := by omega
  have hfield : 4 + i < 8 := by omega
  simp [getLsbD_statusWord, hi, h1, hfield]

theorem statusWord_reservedBit (s : State) {i : Nat} (hi : i = 2 ∨ i = 3 ∨ 8 ≤ i) :
    (statusWord s).getLsbD i = false := by
  have h0 : i ≠ 0 := by omega
  have h1 : i ≠ 1 := by omega
  have hfield : ¬ (4 ≤ i ∧ i < 8) := by omega
  simp [getLsbD_statusWord, h0, h1, hfield]

theorem statusWord_reset : statusWord State.reset = 0 := rfl

/-! ## Who writes `LAST` -/

/-- A step whose host action is next performs that action, with the rest of the list still to come. -/
theorem step_of_host_cons {s : State} {a : HostAction} {rest : List HostAction}
    (h : s.host = a :: rest) : step s = perform a { s with host := rest } := by
  rw [step, nextAction_cons h]

/-- Whatever its descriptor and however it ends, an issued command returns the code it leaves in `LAST`. -/
theorem issue_returns_last (w : CommandWord) (s : State) :
    ∃ t, issue w s = .next t ∧ t.returned = .code t.last :: s.returned := by
  rcases issue_cases w s with ⟨i, _, hexec⟩ | ⟨_, _, hill⟩
  · rcases exec_cases i s with ⟨_, hok⟩ | ⟨f, _, hfault⟩
    · exact ⟨_, hexec.trans hok, by simp⟩
    · exact ⟨_, hexec.trans hfault, by simp⟩
  · exact ⟨_, hill, by simp⟩

/-- A host action that neither issues a command nor resets the core leaves `LAST` alone (R15). -/
theorem perform_keeps_last {a : HostAction} {s t : State} (h : perform a s = .next t)
    (hissue : ∀ w, a ≠ .issue w) (hreset : a ≠ .reset) (hduring : ∀ w, a ≠ .resetDuring w) :
    t.last = s.last := by
  rcases perform_cases h with ⟨_, _, _, _, rfl⟩ | ⟨_, _, _, rfl⟩ | ⟨w, rfl, _⟩ | ⟨_, rfl⟩ |
    ⟨rfl | ⟨w, rfl⟩, _⟩
  · rfl
  · rfl
  · exact absurd rfl (hissue w)
  · rfl
  · exact absurd rfl hreset
  · exact absurd rfl (hduring w)

/-! ## A command whose first check fails -/

/-- Taking a fault is what the statements call ending with its code. -/
theorem raiseFault_eq_ended (f : Completion) (s : State) :
    raiseFault f s = Spec.ended (completionCode f) s := rfl

/-- No later check of the command matters: the fault of the first one is all that is left. -/
theorem exec_of_first_check_fails {i : Instr} {s : State} {passes : Bool} {f : Completion}
    {checks : List (Bool × Completion)} (hchecks : checksOf s i = (passes, f) :: checks)
    (hfails : passes = false) : exec i s = .next (Spec.ended (completionCode f) s) := by
  rw [exec_eq, hchecks, runCommand_fault (f := f), raiseFault_eq_ended]
  simp [firstFault_cons, hfails]

/-- A command that first asks for its unit's key ends with InvalidState when there is none. -/
theorem exec_without_key {i : Instr} {s : State} {valid : Bool} {checks : List (Bool × Completion)}
    (hchecks : checksOf s i = (valid, .invalidState) :: checks) (hkey : valid = false) :
    exec i s = .next (Spec.ended 5 s) :=
  exec_of_first_check_fails hchecks hkey

/-! ## The erased Blowfish key state -/

theorem bfKeyZero_bp (i : Fin 18) : bfKeyZero.bp[i] = 0 := by simp [bfKeyZero]

theorem bfKeyZero_bs (b : Fin 4) (i : Fin 256) : bfKeyZero.bs[b][i] = 0 := by simp [bfKeyZero]

end Sys2Proof.Machine

namespace Sys2Proof.Proofs

open Sys2Proof.Machine

/-- Settles O11: the fields bit by bit from `getLsbD_statusWord`, the writers of `LAST` from what a command
and what a host action can do. -/
theorem statusFieldsAndTheirWriters : Obligations.StatusFieldsAndTheirWriters := by
  refine ⟨fun s => ⟨?dkv, ?bfv, statusWord_lastField s, fun i => statusWord_reservedBit s⟩,
    statusWord_reset, ?read, fun s w => issue_returns_last w s, ?hostWrite, ?hostRead, ?readStatus⟩
  case dkv => exact getLsbD_statusWord s 0
  case bfv => exact getLsbD_statusWord s 1
  case read => exact fun s rest h => step_of_host_cons h
  case hostWrite =>
    exact fun s t addr byte h => perform_keeps_last (a := .write addr byte) h nofun nofun nofun
  case hostRead =>
    exact fun s t addr h => perform_keeps_last (a := .read addr) h nofun nofun nofun
  case readStatus =>
    exact fun s t h => perform_keeps_last (a := .readStatus) h nofun nofun nofun

/-- Settles O1: the registers by the definition of the reset state, the block commands because the valid flag
of their unit is the first thing each of them checks. -/
theorem resetHoldsZeroEverywhere : Obligations.ResetHoldsZeroEverywhere := by
  refine ⟨fun i => by simp [State.reset], rfl, bfKeyZero_bp, bfKeyZero_bs, rfl, rfl, rfl, rfl, rfl, rfl,
    rfl, rfl, rfl, statusWord_reset, Memory.read_nil, fun s a b c d hdes hbf => ?blocks⟩
  case blocks =>
    exact ⟨exec_without_key rfl hdes, exec_without_key rfl hdes, exec_without_key rfl hdes,
      exec_without_key rfl hbf, exec_without_key rfl hbf⟩

end Sys2Proof.Proofs
end

section
/-! What a command takes from `BUF` and what it leaves there: it depends on the regions it reads alone, and it
writes one region or none. The statement of `20_memory.md` R31 follows. -/

namespace Sys2Proof.Machine

open Sys2Proof.Spec

/-! ## Regions of two buffers -/

/-- Two buffers that agree on a list of regions give the same bytes for each of them. -/
theorem readRegion_of_agree {s : State} {m : Memory} {regions : List (Word × Nat)}
    (hagree : ∀ addr, inRegions regions addr → s.buf.read addr = m.read addr) :
    ∀ r ∈ regions, readRegion { s with buf := m } r.1 r.2 = readRegion s r.1 r.2 := by
  refine fun r hr => List.ext_getElem (by simp [readRegion]) fun k hk _ => ?_
  have hlt : k < r.2 := by simpa [readRegion] using hk
  have hbyte := hagree (regionStart r.1 + k) ⟨r, hr, by omega, by omega⟩
  simp [readRegion, hbyte]

/-- A region just written with the same bytes reads alike in both buffers, whatever they held before. -/
theorem Memory.read_writeBytes_inside_eq {m m' : Memory} (hm : m.wf) (hm' : m'.wf) {start addr : Nat}
    {bytes : List Byte} (hle : start ≤ addr) (hlt : addr < start + bytes.length) :
    (m.writeBytes start bytes).read addr = (m'.writeBytes start bytes).read addr := by
  obtain ⟨k, rfl⟩ := Nat.exists_eq_add_of_le hle
  have hk : k < bytes.length := by omega
  rw [Memory.read_writeBytes_inside hm hk, Memory.read_writeBytes_inside hm' hk]

/-! ## What a command stores -/

/-- The bytes a command stores when its checks pass; the key and clear commands store none. -/
def bytesStored : Instr → State → List Byte
  | .desKey _ _, _ => []
  | .desEnc a _, s => bytesBe 8 (desEncipher s.dk (readBlock s a))
  | .desDec a _, s => bytesBe 8 (desDecipher s.dk (readBlock s a))
  | .desCrypt a iterations salt, s =>
    bytesBe 8 (desCryptBlock s.dk (iterationCount iterations) (saltMask salt) (readBlock s a))
  | .desClr, _ => []
  | .bfKey _ _, _ => []
  | .bfEnc a _, s => pairBytes (bfEncipher s.bf (readPair s a))
  | .bfDec a _, s => pairBytes (bfDecipher s.bf (readPair s a))
  | .bfBcrypt key len salt cost _ flags, s =>
    bcrypt (readRegion s key (uint len)) (readRegion s salt bcryptSaltBytes) (costValue cost)
      (signBug flags)
  | .bfClr, _ => []

/-- A command leaves `BUF` alone, or it writes its one output region whole with the bytes it stores. -/
theorem effectOf_buf_cases (i : Instr) :
    (regionsWritten i = [] ∧ ∀ s, (effectOf i s).buf = s.buf) ∨
      ∃ off n, regionsWritten i = [(off, n)] ∧ ∀ s, (bytesStored i s).length = n ∧
        (effectOf i s).buf = s.buf.writeBytes (regionStart off) (bytesStored i s) := by
  cases i with
  | desKey a len => exact .inl ⟨rfl, by simp [effectOf, desKeyEffect]⟩
  | desEnc a b => exact .inr ⟨b, 8, rfl, by simp [effectOf, desEncEffect, bytesStored]⟩
  | desDec a b => exact .inr ⟨b, 8, rfl, by simp [effectOf, desDecEffect, bytesStored]⟩
  | desCrypt a iterations salt =>
    exact .inr ⟨a, 8, rfl, by simp [effectOf, desCryptEffect, bytesStored]⟩
  | desClr => exact .inl ⟨rfl, by simp [effectOf]⟩
  | bfKey a len => exact .inl ⟨rfl, by simp [effectOf, bfKeyEffect]⟩
  | bfEnc a b => exact .inr ⟨b, 8, rfl, by simp [effectOf, bfEncEffect, bytesStored]⟩
  | bfDec a b => exact .inr ⟨b, 8, rfl, by simp [effectOf, bfDecEffect, bytesStored]⟩
  | bfBcrypt key len salt cost out flags =>
    exact .inr ⟨out, 23, rfl, by simp [effectOf, bfBcryptEffect, bytesStored]⟩
  | bfClr => exact .inl ⟨rfl, by simp [effectOf]⟩

/-- Outside its output region a command leaves every byte of `BUF` as it was. -/
theorem effectOf_read_outside {i : Instr} {addr : Nat} (s : State)
    (hout : ¬ inRegions (regionsWritten i) addr) :
    (effectOf i s).buf.read addr = s.buf.read addr := by
  rcases effectOf_buf_cases i with ⟨_, hbuf⟩ | ⟨off, n, hregions, heffect⟩
  · rw [hbuf]
  · obtain ⟨hlen, hbuf⟩ := heffect s
    have hnot : ¬ (regionStart off ≤ addr ∧ addr < regionStart off + n) := by
      simpa [hregions] using hout
    rw [hbuf, Memory.read_writeBytes_outside (by omega)]

/-! ## What a command takes from `BUF` -/

/-- No check of a command looks at `BUF`. -/
theorem checksOf_setBuf (i : Instr) (s : State) (m : Memory) :
    checksOf { s with buf := m } i = checksOf s i := by
  cases i <;> rfl

/-- Commands end alike in states that differ in `BUF` only: both complete, or both raise the same fault. -/
theorem exec_cases_setBuf (i : Instr) (s : State) (m : Memory) :
    (exec i s = .next (complete .ok (effectOf i s)) ∧
      exec i { s with buf := m } = .next (complete .ok (effectOf i { s with buf := m }))) ∨
    ∃ f, completionCode f ≠ 0 ∧ exec i s = .next (raiseFault f s) ∧
      exec i { s with buf := m } = .next (raiseFault f { s with buf := m }) := by
  rw [exec_eq i { s with buf := m }, checksOf_setBuf]
  rcases exec_cases i s with ⟨hpass, hexec⟩ | ⟨f, hfail, hexec⟩
  · exact .inl ⟨hexec, runCommand_ok _ _ hpass⟩
  · have hmem := checksOf_faults i s _ (firstFault_mem hfail)
    have hcode : completionCode f ≠ 0 := by
      simp only [List.mem_cons, List.not_mem_nil, or_false] at hmem
      rcases hmem with rfl | rfl | rfl <;> decide
    exact .inr ⟨f, hcode, hexec, runCommand_fault _ _ hfail⟩

section
variable {i : Instr} {s : State} {m : Memory}
  (hread : ∀ r ∈ regionsRead i, readRegion { s with buf := m } r.1 r.2 = readRegion s r.1 r.2)
include hread

theorem readBlock_setBuf {a : Word} (ha : (a, 8) ∈ regionsRead i) :
    readBlock { s with buf := m } a = readBlock s a := congrArg (be 64) (hread _ ha)

theorem readPair_setBuf {a : Word} (ha : (a, 8) ∈ regionsRead i) :
    readPair { s with buf := m } a = readPair s a :=
  congrArg (fun bytes : List Byte => (be 32 (bytes.take 4), be 32 (bytes.drop 4))) (hread _ ha)

/-- What a command stores depends on `BUF` through the bytes of its input regions only. -/
theorem bytesStored_setBuf : bytesStored i { s with buf := m } = bytesStored i s := by
  cases i with
  | desEnc a b | desDec a b | desCrypt a iterations salt =>
    simp only [bytesStored, readBlock_setBuf hread (a := a) (by simp [regionsRead])]
  | bfEnc a b | bfDec a b =>
    simp only [bytesStored, readPair_setBuf hread (a := a) (by simp [regionsRead])]
  | bfBcrypt key len salt cost out flags =>
    have hkey : readRegion { s with buf := m } key (uint len) = readRegion s key (uint len) :=
      hread (key, len.toNat) (by simp [regionsRead])
    have hsalt : readRegion { s with buf := m } salt bcryptSaltBytes =
        readRegion s salt bcryptSaltBytes := hread (salt, 16) (by simp [regionsRead])
    simp only [bytesStored, hkey, hsalt]
  | desKey | desClr | bfKey | bfClr => rfl

/-- What a command leaves in the registers depends on `BUF` through the bytes of its input regions only. -/
theorem effectOf_setBuf :
    effectOf i { s with buf := m } =
      { effectOf i s with buf := (effectOf i { s with buf := m }).buf } := by
  cases i with
  | desKey a len =>
    have hkey : readRegion { s with buf := m } a desKeyBytes = readRegion s a desKeyBytes :=
      hread (a, 8) (by simp [regionsRead])
    simp only [effectOf, desKeyEffect, hkey, loadDesKey, clearCD]
  | bfKey a len =>
    have hkey : readRegion { s with buf := m } a (uint len) = readRegion s a (uint len) :=
      hread (a, len.toNat) (by simp [regionsRead])
    simp only [effectOf, bfKeyEffect, hkey, loadBfKey, clearX]
  | desEnc a b => simp only [effectOf, desEncEffect, writeRegion, clearLR]
  | desDec a b => simp only [effectOf, desDecEffect, writeRegion, clearLR]
  | desCrypt a iterations salt => simp only [effectOf, desCryptEffect, writeRegion, clearLR, clearSR]
  | desClr => rfl
  | bfEnc a b => simp only [effectOf, bfEncEffect, writeRegion, clearX]
  | bfDec a b => simp only [effectOf, bfDecEffect, writeRegion, clearX]
  | bfBcrypt key len salt cost out flags =>
    simp only [effectOf, bfBcryptEffect, writeRegion, eraseBfKey, clearX]
  | bfClr => rfl

/-- From buffers that agree on a command's input regions, its output region ends with the same bytes. -/
theorem effectOf_read_inside {addr : Nat} (hs : s.buf.wf) (hm : m.wf)
    (hin : inRegions (regionsWritten i) addr) :
    (effectOf i s).buf.read addr = (effectOf i { s with buf := m }).buf.read addr := by
  rcases effectOf_buf_cases i with ⟨hnone, _⟩ | ⟨off, n, hregions, heffect⟩
  · simp [hnone] at hin
  · obtain ⟨hlen, hbuf⟩ := heffect s
    obtain ⟨_, hbuf'⟩ := heffect { s with buf := m }
    obtain ⟨hle, hlt⟩ : regionStart off ≤ addr ∧ addr < regionStart off + n := by
      simpa [hregions] using hin
    rw [hbuf, hbuf', bytesStored_setBuf hread]
    exact Memory.read_writeBytes_inside_eq hs hm hle (by omega)

end

end Sys2Proof.Machine

namespace Sys2Proof.Proofs

open Sys2Proof.Machine

/-- Settles O55: the buffer decides no check, so both runs complete or both raise one fault; what a completing
command leaves comes from the bytes of its input regions alone. -/
theorem commandsReachOnlyTheirRegions : Obligations.CommandsReachOnlyTheirRegions := by
  intro i s m hs hm hagree
  have hread := readRegion_of_agree hagree
  rcases exec_cases_setBuf i s m with ⟨hexec, hexec'⟩ | ⟨f, hcode, hexec, hexec'⟩
  · refine ⟨_, _, hexec, hexec', ?registers, fun _ addr hin => effectOf_read_inside hread hs hm hin,
      fun addr hout => ⟨effectOf_read_outside s hout, effectOf_read_outside _ hout⟩⟩
    case registers => exact congrArg (complete .ok) (effectOf_setBuf hread)
  · exact ⟨_, _, hexec, hexec', rfl, fun hlast => absurd hlast hcode, fun _ _ => ⟨rfl, rfl⟩⟩

end Sys2Proof.Proofs
end

section
/-! The mask table of `30_encoding.md` R49 read field by field, what that says about `decode`, and the two
statements of `30_encoding.md` on rows and illegal descriptors. -/

namespace Sys2Proof

/-! ## Descriptors field by field -/

/-- The bitwise conjunction of two descriptors, field by field. -/
def Descriptor.and (f g : Descriptor) : Descriptor where
  opc := f.opc &&& g.opc
  flags := f.flags &&& g.flags
  len := f.len &&& g.len
  a := f.a &&& g.a
  b := f.b &&& g.b
  c := f.c &&& g.c
  d := f.d &&& g.d

theorem Descriptor.ofBits_and (w v : CommandWord) :
    Descriptor.ofBits (w &&& v) = (Descriptor.ofBits w).and (Descriptor.ofBits v) := by
  simp [Descriptor.ofBits, Descriptor.and, BitVec.extractLsb'_and]

theorem Descriptor.ofBits_inj {w v : CommandWord} :
    Descriptor.ofBits w = Descriptor.ofBits v ↔ w = v :=
  (Function.LeftInverse.injective Descriptor.toBits_ofBits).eq_iff

/-! ## The rows of the table -/

/-- The mask of a row as fields: all ones over `OPC` and every must-be-zero field, zeros over the operands,
and bits 7:1 alone over the `FLAGS` of `BF.BCRYPT`. -/
def Opcode.maskFields : Opcode → Descriptor
  | .desKey | .bfKey => ⟨.allOnes 8, .allOnes 8, 0, 0, .allOnes 32, .allOnes 32, .allOnes 32⟩
  | .desEnc | .desDec | .bfEnc | .bfDec =>
    ⟨.allOnes 8, .allOnes 8, .allOnes 16, 0, 0, .allOnes 32, .allOnes 32⟩
  | .desCrypt => ⟨.allOnes 8, .allOnes 8, .allOnes 16, 0, .allOnes 32, 0, 0⟩
  | .desClr | .bfClr =>
    ⟨.allOnes 8, .allOnes 8, .allOnes 16, .allOnes 32, .allOnes 32, .allOnes 32, .allOnes 32⟩
  | .bfBcrypt => ⟨.allOnes 8, 254#8, 0, 0, 0, 0, 0⟩

theorem Opcode.ofBits_mask (o : Opcode) : Descriptor.ofBits o.mask = o.maskFields := by
  cases o <;> decide

theorem Opcode.ofBits_pattern (o : Opcode) :
    Descriptor.ofBits o.pattern = ⟨o.value, 0, 0, 0, 0, 0, 0⟩ := by
  cases o <;> decide

/-- The mask byte `0xFE` covers the reserved bits 7:1 of `FLAGS` and leaves `SIGNBUG` free. -/
theorem and_254_eq_zero_iff :
    ∀ flags : Byte, flags &&& 254#8 = 0#8 ↔ flagsReservedZero flags = true := by
  decide

/-- Under its mask a row sees `OPC` and the must-be-zero fields, and nothing of the operands. -/
theorem Opcode.and_maskFields_eq_iff (f : Descriptor) (o : Opcode) :
    f.and o.maskFields = ⟨o.value, 0, 0, 0, 0, 0, 0⟩ ↔ f.opc = o.value ∧ o.reservedZero f = true := by
  cases o <;>
    simp [Descriptor.and, Opcode.maskFields, Opcode.reservedZero, and_254_eq_zero_iff, and_assoc,
      -BitVec.reduceAllOnes]

/-- A row matches a descriptor exactly when `OPC` is its opcode and its must-be-zero fields are zero (R49). -/
theorem Opcode.selectedBy_iff (w : CommandWord) (o : Opcode) :
    o.selectedBy w = true ↔
      (Descriptor.ofBits w).opc = o.value ∧ o.reservedZero (Descriptor.ofBits w) = true := by
  rw [Opcode.selectedBy, beq_iff_eq, ← Descriptor.ofBits_inj, Descriptor.ofBits_and,
    Opcode.ofBits_mask, Opcode.ofBits_pattern, Opcode.and_maskFields_eq_iff]

theorem Opcode.selectedBy_toBits_iff (f : Descriptor) (o : Opcode) :
    o.selectedBy f.toBits = true ↔ f.opc = o.value ∧ o.reservedZero f = true := by
  rw [Opcode.selectedBy_iff, Descriptor.ofBits_toBits]

theorem Opcode.value_inj {o o' : Opcode} : o.value = o'.value ↔ o = o' :=
  ⟨fun h => Option.some.inj (by rw [← opcodeOf_value, h, opcodeOf_value]), congrArg _⟩

/-! ## What the decoder answers -/

theorem decodeFields_ok {f : Descriptor} {o : Opcode} (hopc : f.opc = o.value)
    (hzero : o.reservedZero f = true) : decodeFields f = .ok (o.command f) := by
  rw [decodeFields, hopc, opcodeOf_value]
  exact if_pos hzero

/-- Each descriptor decodes to the command of the row that fits it, or no row fits it and it is refused. -/
theorem decodeFields_cases (f : Descriptor) :
    (∃ o : Opcode, f.opc = o.value ∧ o.reservedZero f = true ∧ decodeFields f = .ok (o.command f)) ∨
      ∃ e, decodeFields f = .error e := by
  cases hopc : opcodeOf f.opc with
  | none => exact .inr ⟨_, by rw [decodeFields, hopc]⟩
  | some o =>
    cases hzero : o.reservedZero f with
    | true =>
      have hvalue := (opcodeOf_eq_some hopc).symm
      exact .inl ⟨o, hvalue, hzero, decodeFields_ok hvalue hzero⟩
    | false => exact .inr ⟨_, by rw [decodeFields, hopc]; exact if_neg (by simp [hzero])⟩

theorem decode_of_selectedBy {w : CommandWord} {o : Opcode} (h : o.selectedBy w = true) :
    decode w = .ok (o.command (Descriptor.ofBits w)) := by
  obtain ⟨hopc, hzero⟩ := (Opcode.selectedBy_iff w o).mp h
  exact decodeFields_ok hopc hzero

theorem decode_of_unmatched {w : CommandWord} (h : ∀ o : Opcode, o.selectedBy w = false) :
    ∃ e, decode w = .error e := by
  rcases decodeFields_cases (Descriptor.ofBits w) with ⟨o, hopc, hzero, _⟩ | herror
  · have hsel := (Opcode.selectedBy_iff w o).mpr ⟨hopc, hzero⟩
    simp [h o] at hsel
  · exact herror

theorem Opcode.eq_of_selectedBy {w : CommandWord} {o o' : Opcode} (h : o.selectedBy w = true)
    (h' : o'.selectedBy w = true) : o = o' := by
  obtain ⟨hopc, _⟩ := (Opcode.selectedBy_iff w o).mp h
  obtain ⟨hopc', _⟩ := (Opcode.selectedBy_iff w o').mp h'
  exact Opcode.value_inj.mp (hopc.symm.trans hopc')

/-! ## Descriptors that no row matches -/

theorem Opcode.mem_opcodes (o : Opcode) : o ∈ opcodes := by
  cases o <;> decide

/-- The values below 256 that some opcode has are the ten of the table of R48, each once. -/
theorem perm_definedOpcodes :
    ((List.range 256).filter fun v => !(opcodeOf (BitVec.ofNat 8 v) == none)).Perm
      (opcodes.map fun o => o.value.toNat) := by
  refine (List.perm_ext_iff_of_nodup (List.nodup_range.filter _) (by decide)).mpr fun v => ?_
  simp only [List.mem_filter, List.mem_range, List.mem_map, Opcode.mem_opcodes, true_and]
  constructor
  · rintro ⟨hlt, hdefined⟩
    obtain ⟨o, ho⟩ : ∃ o, opcodeOf (BitVec.ofNat 8 v) = some o := by
      simpa [Option.isSome_iff_exists] using hdefined
    exact ⟨o, by rw [opcodeOf_eq_some ho, BitVec.toNat_ofNat, Nat.mod_eq_of_lt hlt]⟩
  · rintro ⟨o, rfl⟩
    exact ⟨o.value.isLt, by simp⟩

/-- All but ten of the 256 opcode values are undefined (R50). -/
theorem length_undefinedOpcodes :
    ((List.range 256).filter fun v => opcodeOf (BitVec.ofNat 8 v) == none).length = 246 := by
  have hsplit := List.length_eq_length_filter_add (l := List.range 256)
    fun v => opcodeOf (BitVec.ofNat 8 v) == none
  have hdefined := perm_definedOpcodes.length_eq
  rw [List.length_map, show opcodes.length = 10 from rfl] at hdefined
  rw [List.length_range, hdefined] at hsplit
  omega

theorem unmatched_of_undefined_opcode {f : Descriptor} (h : opcodeOf f.opc = none) (o : Opcode) :
    o.selectedBy f.toBits = false := by
  rw [Bool.eq_false_iff, ne_eq, Opcode.selectedBy_toBits_iff]
  rintro ⟨hopc, _⟩
  exact opcodeOf_eq_none h o hopc.symm

/-- The row of the opcode sees the nonzero field, and every other row asks for another opcode. -/
theorem unmatched_of_reserved_nonzero {f : Descriptor} {o : Opcode} (hopc : f.opc = o.value)
    (hzero : o.reservedZero f = false) (o' : Opcode) : o'.selectedBy f.toBits = false := by
  rw [Bool.eq_false_iff, ne_eq, Opcode.selectedBy_toBits_iff]
  rintro ⟨hopc', hzero'⟩
  obtain rfl := Opcode.value_inj.mp (hopc.symm.trans hopc')
  simp [hzero] at hzero'

/-- An undecodable descriptor ends with IllegalCommand, which touches nothing but its code (R50). -/
theorem Machine.issue_of_decode_error {w : CommandWord} {e : DecodeError} (h : decode w = .error e)
    (s : Machine.State) : Machine.issue w s = .next (Spec.ended 6 s) := by
  rcases Machine.issue_cases w s with ⟨i, hok, _⟩ | ⟨_, _, hissue⟩
  · rw [h] at hok
    cases hok
  · rw [hissue, Machine.raiseFault_eq_ended]
    rfl

end Sys2Proof

namespace Sys2Proof.Proofs

open Sys2Proof.Machine

/-- Settles O7: a row's mask and match, taken field by field, ask for its opcode and for zeros in its
must-be-zero fields, which is what `decode` asks for; and different rows ask for different opcodes. -/
theorem decodeFollowsTheMaskTable : Obligations.DecodeFollowsTheMaskTable :=
  ⟨rfl, Opcode.selectedBy_iff, fun _ _ h => decode_of_selectedBy h, fun _ h => decode_of_unmatched h,
    fun _ _ _ h h' => Opcode.eq_of_selectedBy h h'⟩

/-- Settles O6: an unmatched descriptor does not decode, and IllegalCommand is all that is left; the opcode
values are counted, and the other two clauses say which part of a row fails. -/
theorem illegalDescriptorRaisesIllegalCommand : Obligations.IllegalDescriptorRaisesIllegalCommand := by
  refine ⟨?unmatched, ?count, fun _ h => unmatched_of_undefined_opcode h,
    fun _ _ hopc hzero => unmatched_of_reserved_nonzero hopc hzero⟩
  case unmatched =>
    intro s w rest hhost hrows
    obtain ⟨e, herror⟩ := decode_of_unmatched hrows
    exact (step_of_host_cons hhost).trans (issue_of_decode_error herror _)
  case count => exact length_undefinedOpcodes

end Sys2Proof.Proofs
end


section
/-! What stands at a position of a packed, permuted or salt-swapped value, and the statements of
`40_des_primitives.md` R60, R62, R64 and R69 that follow. -/

namespace Sys2Proof.Machine

/-! ## Positions -/

theorem pos_eq_getLsbD {n : Nat} (v : BitVec n) (j : Nat) : pos v j = v.getLsbD (n - j) := rfl

/-- A value is determined by what stands at its positions 1 to n. -/
theorem eq_of_pos_eq {n : Nat} {v w : BitVec n} (h : ∀ j, 1 ≤ j → j ≤ n → pos v j = pos w j) :
    v = w := by
  refine BitVec.eq_of_getLsbD_eq fun i hi => ?_
  have hpos := h (n - i) (by omega) (by omega)
  rwa [pos_eq_getLsbD, pos_eq_getLsbD, Nat.sub_sub_self hi.le] at hpos

/-- Position j of packed bytes is bit 7 - (j - 1) mod 8 of byte (j - 1) div 8, byte 0 the first (R32). -/
theorem pos_be {w : Nat} {bytes : List Byte} (hlen : 8 * bytes.length = w) {j : Nat} (h1 : 1 ≤ j)
    (hj : j ≤ w) :
    pos (be w bytes) j = (bytes.getD ((j - 1) / 8) 0).getLsbD (7 - (j - 1) % 8) := by
  have hbit : w - j < w := by omega
  have hplace : (w - j) / 8 < bytes.length := by omega
  have hbyte : bytes.length - 1 - (w - j) / 8 = (j - 1) / 8 := by omega
  have hin : (w - j) % 8 = 7 - (j - 1) % 8 := by omega
  rw [pos_eq_getLsbD, getLsbD_be, decide_eq_true hbit, Bool.true_and, List.getD_eq_getElem?_getD,
    List.getElem?_reverse hplace, hbyte, hin, ← List.getD_eq_getElem?_getD]

/-- `00_scope.md` section 5.3: position j of the permuted value holds position `T[j]` of the value. -/
theorem pos_permute {n m : Nat} (v : BitVec n) {t : List Nat} (hlen : t.length = m) {j : Nat}
    (h1 : 1 ≤ j) (hj : j ≤ m) : pos (permute m v t : BitVec m) j = pos v (t.getD (j - 1) 0) := by
  have hbit : m - j < m := by omega
  have hplace : m - j < t.length := by omega
  have hentry : t.length - 1 - (m - j) = j - 1 := by omega
  have hin : j - 1 < t.length := by omega
  rw [pos_eq_getLsbD, getLsbD_permute, decide_eq_true hbit, Bool.true_and,
    List.getD_eq_getElem?_getD, List.getElem?_map, List.getElem?_reverse hplace, hentry]
  simp [hin]

/-- A permutation undoes another when each of its entries names the position where the other put it. -/
theorem permute_permute_of_inverse {n : Nat} (v : BitVec n) {t t' : List Nat} (hlen : t.length = n)
    (hlen' : t'.length = n)
    (hinv : ∀ j, 1 ≤ j → j ≤ n → 1 ≤ t'.getD (j - 1) 0 ∧ t'.getD (j - 1) 0 ≤ n ∧
      t.getD (t'.getD (j - 1) 0 - 1) 0 = j) :
    permute n (permute n v t : BitVec n) t' = v := by
  refine eq_of_pos_eq fun j h1 hj => ?_
  obtain ⟨hfirst, hlast, hback⟩ := hinv j h1 hj
  rw [pos_permute _ hlen' h1 hj, pos_permute v hlen hfirst hlast, hback]

/-! ## The initial and the final permutation -/

theorem tableFP_tableIP {j : Nat} (h1 : 1 ≤ j) (hj : j ≤ 64) :
    tableFP.getD (tableIP.getD (j - 1) 0 - 1) 0 = j := by
  have hall : ∀ i < 64, tableFP.getD (tableIP.getD i 0 - 1) 0 = i + 1 := by decide
  have hi := hall (j - 1) (by omega)
  omega

theorem tableIP_tableFP {j : Nat} (h1 : 1 ≤ j) (hj : j ≤ 64) :
    1 ≤ tableFP.getD (j - 1) 0 ∧ tableFP.getD (j - 1) 0 ≤ 64 ∧
      tableIP.getD (tableFP.getD (j - 1) 0 - 1) 0 = j := by
  have hall : ∀ i < 64, 1 ≤ tableFP.getD i 0 ∧ tableFP.getD i 0 ≤ 64 ∧
      tableIP.getD (tableFP.getD i 0 - 1) 0 = i + 1 := by decide
  obtain ⟨hfirst, hlast, hback⟩ := hall (j - 1) (by omega)
  exact ⟨hfirst, hlast, by omega⟩

/-- `FP` undoes `IP` on every block (R62). -/
theorem permute_tableFP_permute_tableIP (v : Block) :
    permute 64 (permute 64 v tableIP : Block) tableFP = v :=
  permute_permute_of_inverse v rfl rfl fun _ => tableIP_tableFP

/-! ## `SaltSwap` -/

/-- The two XORs exchange a pair of bits that the mask selects and leave any other pair as it is. -/
theorem xor_masked_difference (a b m : Bool) : (a ^^ ((a ^^ b) && m)) = if m then b else a := by
  cases m <;> simp

theorem getLsbD_saltSwap_upper (x : Subkey) (sr : Salt) {k : Nat} (hk : k < 24) :
    (saltSwap x sr).getLsbD (24 + k) =
      if sr.getLsbD k then x.getLsbD k else x.getLsbD (24 + k) := by
  have hwidth : 24 + k < 48 := by omega
  rw [← xor_masked_difference, saltSwap, getLsbD_cat]
  simp [hwidth, hk]

theorem getLsbD_saltSwap_lower (x : Subkey) (sr : Salt) {k : Nat} (hk : k < 24) :
    (saltSwap x sr).getLsbD k =
      if sr.getLsbD k then x.getLsbD (24 + k) else x.getLsbD k := by
  have hwidth : k < 48 := by omega
  rw [← xor_masked_difference, Bool.xor_comm (x.getLsbD k) (x.getLsbD (24 + k)),
    saltSwap, getLsbD_cat]
  simp [hwidth, hk]

theorem pos_upperHalf (x : Subkey) {k : Nat} (hk : k < 24) : pos x (24 - k) = x.getLsbD (24 + k) := by
  rw [pos_eq_getLsbD, show 48 - (24 - k) = 24 + k by omega]

theorem pos_lowerHalf (x : Subkey) {k : Nat} (hk : k < 24) : pos x (48 - k) = x.getLsbD k := by
  rw [pos_eq_getLsbD, Nat.sub_sub_self (by omega)]

/-- Bit k of the mask decides whether the positions 24 - k and 48 - k are exchanged (R64). -/
theorem pos_saltSwap (x : Subkey) (sr : Salt) {k : Nat} (hk : k < 24) :
    pos (saltSwap x sr) (24 - k) = (if sr.getLsbD k then pos x (48 - k) else pos x (24 - k)) ∧
    pos (saltSwap x sr) (48 - k) = (if sr.getLsbD k then pos x (24 - k) else pos x (48 - k)) := by
  simp only [pos_upperHalf _ hk, pos_lowerHalf _ hk]
  exact ⟨getLsbD_saltSwap_upper x sr hk, getLsbD_saltSwap_lower x sr hk⟩

/-- Without a salt no bit of the mask selects a pair. -/
theorem saltSwap_zero (x : Subkey) : saltSwap x 0 = x := by
  refine BitVec.eq_of_getLsbD_eq fun i hi => ?_
  rcases Nat.lt_or_ge i 24 with hlow | hhigh
  · simpa using getLsbD_saltSwap_lower x 0 hlow
  · obtain ⟨k, rfl⟩ := Nat.exists_eq_add_of_le hhigh
    simpa using getLsbD_saltSwap_upper x 0 (show k < 24 by omega)

/-! ## The Feistel round -/

theorem desRound_apply (sr : Salt) (l r : Word) (k : Subkey) :
    desRound sr (l, r) k = (r, l ^^^ desF r k sr) := rfl

/-- The half that passes through unchanged gives the same F value again, which the second XOR removes. -/
theorem desRound_undone (sr : Salt) (l r : Word) (k : Subkey) :
    ((desRound sr (l, r) k).2 ^^^ desF (desRound sr (l, r) k).1 k sr, (desRound sr (l, r) k).1) =
      (l, r) := by
  rw [desRound_apply, BitVec.xor_assoc, BitVec.xor_self, BitVec.xor_zero]

end Sys2Proof.Machine

namespace Sys2Proof.Proofs

open Sys2Proof.Machine

/-- Settles O18: the first clause is the definition of a position, the second locates its byte. -/
theorem blockBytesAreBigEndian : Obligations.BlockBytesAreBigEndian :=
  fun _ hlen j h1 hj => ⟨pos_eq_getLsbD _ j, pos_be (by rw [hlen]) h1 hj⟩

/-- Settles O20: `FP` and `IP` list each other's positions, so one undoes the other on every block. -/
theorem finalPermutationInvertsInitial : Obligations.FinalPermutationInvertsInitial := by
  refine ⟨rfl, fun _ => tableFP_tableIP, permute_tableFP_permute_tableIP, fun _ _ => rfl,
    fun _ _ => rfl, ?sample⟩
  case sample => decide +kernel

/-- Settles O21: the exchange pair by pair from the bits of the two XORs; the places where the mask is used
are those of the definitions of `F` and of the block commands. -/
theorem saltSwapExchangesSelectedBits : Obligations.SaltSwapExchangesSelectedBits := by
  refine ⟨fun _ _ => rfl, fun x sr _ => pos_saltSwap x sr, saltSwap_zero, fun _ _ _ => rfl,
    fun _ _ => ⟨rfl, rfl⟩, ?samples⟩
  case samples => decide

/-- Settles O23: the round by its definition, its inverse by cancelling the same F value. -/
theorem feistelRoundIsInvertible : Obligations.FeistelRoundIsInvertible :=
  fun l r k sr => ⟨desRound_apply sr l r k, (desRound_undone sr l r k).symm⟩

end Sys2Proof.Proofs
end

section
/-! The key schedule of the DES unit: the rotations as rotations of 28 bits that add up, the schedule as the
loop of R78, and which bits of a key it depends on; then the two commands that load and erase it, and the five
statements of `41_des_key_schedule.md`. -/

namespace Sys2Proof.Machine

open Sys2Proof.Spec

/-! ## Rotations of a half -/

/-- Bit i of a rotated half comes from the place as many bits below it, counted round the 28. -/
theorem getLsbD_rotateLeft_half (v : KeyHalf) (n : Nat) {i : Nat} (hi : i < 28) :
    (v.rotateLeft n).getLsbD i = v.getLsbD ((i + (28 - n % 28)) % 28) := by
  rw [BitVec.getLsbD_rotateLeft]
  by_cases hwrap : i < n % 28
  · have hplace : (i + (28 - n % 28)) % 28 = 28 - n % 28 + i := by omega
    simp [hwrap, hplace]
  · have hplace : (i + (28 - n % 28)) % 28 = i - n % 28 := by omega
    simp [hwrap, hplace, hi]

theorem rotateLeft_half_add (v : KeyHalf) (a b : Nat) :
    (v.rotateLeft a).rotateLeft b = v.rotateLeft (a + b) := by
  refine BitVec.eq_of_getLsbD_eq fun i hi => ?_
  have hinner : (i + (28 - b % 28)) % 28 < 28 := Nat.mod_lt _ (by decide)
  have hplace : ((i + (28 - b % 28)) % 28 + (28 - a % 28)) % 28 =
      (i + (28 - (a + b) % 28)) % 28 := by omega
  rw [getLsbD_rotateLeft_half _ b hi, getLsbD_rotateLeft_half v a hinner,
    getLsbD_rotateLeft_half v (a + b) hi, hplace]

/-- A full turn brings every bit back. -/
theorem rotateLeft_half_full (v : KeyHalf) : v.rotateLeft 28 = v := by
  refine BitVec.eq_of_getLsbD_eq fun i hi => ?_
  have hplace : (i + (28 - 28 % 28)) % 28 = i := by omega
  rw [getLsbD_rotateLeft_half v 28 hi, hplace]

theorem rol28_eq_rotateLeft (v : KeyHalf) {n : Nat} (hn : n < 28) : rol28 v n = v.rotateLeft n := by
  rw [rol28, BitVec.rotateLeft_def, Nat.mod_eq_of_lt hn]

/-- Successive rotations are one rotation by the sum of their counts. -/
theorem foldl_rol28 {counts : List Nat} (hcounts : ∀ n ∈ counts, n < 28) (v : KeyHalf) :
    counts.foldl rol28 v = v.rotateLeft counts.sum := by
  induction counts generalizing v with
  | nil => exact ((BitVec.rotateLeft_mod_eq_rotateLeft (r := 28)).trans (rotateLeft_half_full v)).symm
  | cons n counts ih =>
    obtain ⟨hn, hrest⟩ := List.forall_mem_cons.mp hcounts
    rw [List.foldl_cons, ih hrest, rol28_eq_rotateLeft v hn, rotateLeft_half_add, List.sum_cons]

/-- Each round goes on from where the round before it left the half. -/
theorem rotated_succ (v : KeyHalf) {i : Nat} (hi : i < 15) :
    rotated v (i + 1) = rol28 (rotated v i) (tableROT.getD (i + 1) 0) := by
  have hlen : i + 1 < tableROT.length := Nat.succ_lt_succ hi
  rw [rotated, List.take_succ_eq_append_getElem hlen, List.foldl_concat, ← rotated,
    List.getD_eq_getElem _ _ hlen]

/-- The sixteen counts add up to one full turn (R76). -/
theorem rotated_last (v : KeyHalf) : rotated v 15 = v :=
  calc rotated v 15 = v.rotateLeft tableROT.sum := foldl_rol28 (by decide) v
    _ = v := rotateLeft_half_full v

/-! ## The schedule -/

/-- Turn i of the loop of R78 finds the halves rotated by the first i + 1 counts. -/
theorem scheduleLoop_eq_ofFn (counts : List Nat) (c d : KeyHalf) :
    scheduleLoop counts c d = List.ofFn fun i : Fin counts.length =>
      permute 48 (cat 56 ((counts.take (i.val + 1)).foldl rol28 c)
        ((counts.take (i.val + 1)).foldl rol28 d)) tablePC2 := by
  induction counts generalizing c d with
  | nil => rfl
  | cons n counts ih => simp [scheduleLoop, ih, List.ofFn_succ]

theorem toList_desSchedule (k : Block) : (desSchedule k).toList =
    scheduleLoop tableROT ((permute 56 k tablePC1 : BitVec 56).extractLsb' 28 28)
      ((permute 56 k tablePC1 : BitVec 56).extractLsb' 0 28) := by
  rw [scheduleLoop_eq_ofFn, desSchedule, Vector.toList_ofFn]
  rfl

/-! ## The key bits the schedule depends on -/

/-- A permutation sees its argument at the positions it lists and nowhere else. -/
theorem permute_congr {n m : Nat} {v w : BitVec n} {t : List Nat}
    (h : ∀ p ∈ t, pos v p = pos w p) : (permute m v t : BitVec m) = permute m w t := by
  refine BitVec.eq_of_getLsbD_eq fun i _ => ?_
  have hlisted : t.reverse.map (pos v) = t.reverse.map (pos w) :=
    List.map_congr_left fun p hp => h p (List.mem_reverse.mp hp)
  rw [getLsbD_permute, getLsbD_permute, hlisted]

/-- `PC1` lists positions of the key, and no low bit of a byte among them (R79). -/
theorem tablePC1_positions : ∀ p ∈ tablePC1, p ≤ 64 ∧ p % 8 ≠ 0 := by decide

theorem permute_tablePC1_congr {k k' : Block}
    (h : ∀ i, i < 64 → i % 8 ≠ 0 → k.getLsbD i = k'.getLsbD i) :
    (permute 56 k tablePC1 : BitVec 56) = permute 56 k' tablePC1 := by
  refine permute_congr fun p hp => ?_
  obtain ⟨hle, hbit⟩ := tablePC1_positions p hp
  exact h (64 - p) (by omega) (by omega)

/-- Keys that agree outside the low bit of every byte have one schedule (R79). -/
theorem desSchedule_congr {k k' : Block}
    (h : ∀ i, i < 64 → i % 8 ≠ 0 → k.getLsbD i = k'.getLsbD i) : desSchedule k = desSchedule k' := by
  simp only [desSchedule, permute_tablePC1_congr h]

theorem desSchedule_zeros : desSchedule 0x0000000000000000 = Vector.replicate 16 0 := by
  decide +kernel

theorem desSchedule_ones : desSchedule 0xFFFFFFFFFFFFFFFF = Vector.replicate 16 0xFFFFFFFFFFFF := by
  decide +kernel

/-! ## `DES.KEY` -/

/-- Past the length check the region decides. -/
theorem firstFault_desKey {len : BitVec 16} (hlen : len.toNat = 8) (a : Word) (s : State) :
    firstFault (checksOf s (.desKey a len)) =
      if regionOk a 8 then none else some .rangeViolation := by
  rw [checksOf, firstFault_cons, (desKeyLenOk_iff len).mpr hlen]
  rfl

/-- With both checks passed the schedule of the eight bytes is loaded and the core ends with OK (R80). -/
theorem exec_desKey_ok {a : Word} {len : BitVec 16} (hlen : len.toNat = 8) (hin : inside a 8)
    (s : State) : exec (.desKey a len) s = .next (ended 0
      { s with dk := desSchedule (be 64 (bytesAt s a 8)), dkv := true, c := 0, d := 0 }) := by
  have hchecks : firstFault (checksOf s (.desKey a len)) = none := by
    rw [firstFault_desKey hlen, if_pos ((regionOk_iff a 8).mpr hin)]
  rw [exec_eq, runCommand_ok _ _ hchecks]
  rfl

/-- The length is checked first, so the region does not matter (R80). -/
theorem exec_desKey_badLength {a : Word} {len : BitVec 16} (hlen : len.toNat ≠ 8) (s : State) :
    exec (.desKey a len) s = .next (ended 4 s) :=
  exec_of_first_check_fails (f := .lengthViolation) rfl
    (Bool.eq_false_iff.mpr (mt (desKeyLenOk_iff len).mp hlen))

theorem exec_desKey_badRegion {a : Word} {len : BitVec 16} (hlen : len.toNat = 8)
    (hout : ¬ inside a 8) (s : State) : exec (.desKey a len) s = .next (ended 3 s) := by
  have hchecks : firstFault (checksOf s (.desKey a len)) = some .rangeViolation := by
    rw [firstFault_desKey hlen, if_neg (mt (regionOk_iff a 8).mp hout)]
  rw [exec_eq, runCommand_fault _ _ hchecks, raiseFault_eq_ended]
  rfl

end Sys2Proof.Machine

namespace Sys2Proof.Proofs

open Sys2Proof.Machine

/-- Settles O24: each count is below 28, so the rotations of the sixteen rounds add up to one by 28. -/
theorem rotationsAccumulateToAFullTurn : Obligations.RotationsAccumulateToAFullTurn :=
  ⟨rfl, rfl, fun v _ hn => rol28_eq_rotateLeft v (by omega), fun _ => rfl, fun v _ => rotated_succ v,
    rotated_last⟩

/-- Settles O25: the loop by `scheduleLoop_eq_ofFn`, the worked key by evaluation. -/
theorem scheduleFollowsItsLoop : Obligations.ScheduleFollowsItsLoop := by
  refine ⟨toList_desSchedule, ?sample⟩
  case sample => decide +kernel

/-- Settles O26: `PC1` is all the schedule sees of a key, and it skips the low bits; the second and third
sample keys differ from the first and the fourth in those bits only. -/
theorem scheduleIgnoresParityBits : Obligations.ScheduleIgnoresParityBits := by
  refine ⟨fun p hp => (tablePC1_positions p hp).2, fun _ _ => desSchedule_congr, ?accepted,
    desSchedule_zeros, ?lowBitsSet, ?lowBitsClear, desSchedule_ones⟩
  case accepted => exact fun a s hin => ⟨_, exec_desKey_ok rfl hin s, rfl, rfl, rfl⟩
  case lowBitsSet => exact (desSchedule_congr (by decide)).trans desSchedule_zeros
  case lowBitsClear => exact (desSchedule_congr (by decide)).trans desSchedule_ones

/-- Settles O27: the encoding has its must-be-zero fields zero, and the two checks in their order decide the rest. -/
theorem desKeyLoadsTheSchedule : Obligations.DesKeyLoadsTheSchedule := fun _ _ s =>
  ⟨decodeFields_ok (o := .desKey) rfl rfl, fun hlen hin => exec_desKey_ok hlen hin s,
    fun hlen => exec_desKey_badLength hlen s, fun hlen hout => exec_desKey_badRegion hlen hout s⟩

/-- Settles O28: `DES.CLR` checks nothing, and the flag it clears is the first check of `DES.ENC`. -/
theorem desClrErasesTheSchedule : Obligations.DesClrErasesTheSchedule :=
  ⟨decodeFields_ok (o := .desClr) rfl rfl,
    fun s => ⟨exec_desClr s, fun _ _ => exec_without_key rfl rfl⟩⟩

end Sys2Proof.Proofs
end

section
/-! The block commands of the DES unit: a run of rounds is undone by the rounds in reverse order on swapped
halves, and the output stage is undone by the initial permutation up to that swap; then `DES.ENC` and
`DES.DEC` on states, and the three statements of `42_des_block.md`. -/

namespace Sys2Proof.Machine

open Sys2Proof.Spec

/-! ## The initial permutation of an output block -/

theorem tableIP_bounds {j : Nat} (h1 : 1 ≤ j) (hj : j ≤ 64) :
    1 ≤ tableIP.getD (j - 1) 0 ∧ tableIP.getD (j - 1) 0 ≤ 64 := by
  have hall : ∀ i < 64, 1 ≤ tableIP.getD i 0 ∧ tableIP.getD i 0 ≤ 64 := by decide
  exact hall (j - 1) (by omega)

/-- `IP` undoes `FP` on every block (R62). -/
theorem permute_tableIP_permute_tableFP (v : Block) :
    permute 64 (permute 64 v tableFP : Block) tableIP = v := by
  refine permute_permute_of_inverse v rfl rfl fun j h1 hj => ?_
  obtain ⟨hfirst, hlast⟩ := tableIP_bounds h1 hj
  exact ⟨hfirst, hlast, tableFP_tableIP h1 hj⟩

theorem extractLsb'_cat_upper (a b : Word) : (cat 64 a b).extractLsb' 32 32 = a := by
  refine BitVec.eq_of_getLsbD_eq fun i hi => ?_
  have hwidth : 32 + i < 64 := by omega
  rw [BitVec.getLsbD_extractLsb', getLsbD_cat]
  simp [hi, hwidth]

theorem extractLsb'_cat_lower (a b : Word) : (cat 64 a b).extractLsb' 0 32 = b := by
  refine BitVec.eq_of_getLsbD_eq fun i hi => ?_
  have hwidth : i < 64 := by omega
  rw [BitVec.getLsbD_extractLsb', getLsbD_cat]
  simp [hi, hwidth]

theorem cat_extractLsb'_halves (v : Block) :
    cat 64 (v.extractLsb' 32 32) (v.extractLsb' 0 32) = v := by
  refine BitVec.eq_of_getLsbD_eq fun i hi => ?_
  rw [getLsbD_cat]
  rcases Nat.lt_or_ge i 32 with hlow | hhigh
  · simp [hi, hlow]
  · obtain ⟨k, rfl⟩ := Nat.exists_eq_add_of_le hhigh
    have hk : k < 32 := by omega
    simp [hi, hk]

/-- The output stage swaps the halves (R70), so they come back from `IP` in swapped order. -/
theorem initialHalves_outputBlock (lr : Word × Word) : initialHalves (outputBlock lr) = lr.swap := by
  simp only [initialHalves, outputBlock, permute_tableIP_permute_tableFP, extractLsb'_cat_upper,
    extractLsb'_cat_lower]
  rfl

theorem outputBlock_swap_initialHalves (v : Block) : outputBlock (initialHalves v).swap = v := by
  simp only [initialHalves, outputBlock, Prod.swap, cat_extractLsb'_halves,
    permute_tableFP_permute_tableIP]

/-! ## Rounds in reverse order -/

/-- A round is undone by the same round applied to the swapped halves (R87). -/
theorem desRound_swap_desRound (sr : Salt) (lr : Word × Word) (k : Subkey) :
    desRound sr (desRound sr lr k).swap k = lr.swap :=
  congrArg Prod.swap (desRound_undone sr lr.1 lr.2 k)

/-- The last round is undone first, and so on down to the first. -/
theorem desRounds_reverse_swap (sr : Salt) (keys : List Subkey) (lr : Word × Word) :
    desRounds sr keys.reverse (desRounds sr keys lr).swap = lr.swap := by
  induction keys generalizing lr with
  | nil => rfl
  | cons k keys ih =>
    calc desRounds sr (k :: keys).reverse (desRounds sr (k :: keys) lr).swap
        = desRounds sr [k] (desRounds sr keys.reverse (desRounds sr keys (desRound sr lr k)).swap) := by
          rw [List.reverse_cons, desRounds_append]
          rfl
      _ = desRound sr (desRound sr lr k).swap k := by
          rw [ih]
          rfl
      _ = lr.swap := desRound_swap_desRound sr lr k

/-! ## One block -/

theorem desBlock_eq_outputBlock (keys : List Subkey) (v : Block) :
    desBlock keys v = outputBlock (desRounds 0 keys (initialHalves v)) := rfl

theorem desEncipher_eq_desBlock (dk : Vector Subkey 16) (v : Block) :
    desEncipher dk v = desBlock dk.toList v := rfl

theorem desDecipher_eq_desBlock (dk : Vector Subkey 16) (v : Block) :
    desDecipher dk v = desBlock dk.toList.reverse v := rfl

/-- The same computation with the subkeys in reverse order gives the block back (R87). -/
theorem desBlock_reverse_desBlock (keys : List Subkey) (v : Block) :
    desBlock keys.reverse (desBlock keys v) = v := by
  rw [desBlock_eq_outputBlock, desBlock_eq_outputBlock, initialHalves_outputBlock,
    desRounds_reverse_swap, outputBlock_swap_initialHalves]

theorem desDecipher_desEncipher (dk : Vector Subkey 16) (v : Block) :
    desDecipher dk (desEncipher dk v) = v := by
  rw [desDecipher_eq_desBlock, desEncipher_eq_desBlock, desBlock_reverse_desBlock]

theorem desEncipher_desDecipher (dk : Vector Subkey 16) (v : Block) :
    desEncipher dk (desDecipher dk v) = v := by
  have h := desBlock_reverse_desBlock dk.toList.reverse v
  rwa [List.reverse_reverse] at h

/-! ## Commands that check a key, an input block and an output block -/

section
variable {i : Instr} {s : State} {valid : Bool} {a b : Word}
  (hchecks : checksOf s i = [(valid, .invalidState), (regionOk a 8, .rangeViolation),
    (regionOk b 8, .rangeViolation)])
include hchecks

/-- Past the key check the two regions decide. -/
theorem firstFault_blockCommand (hkey : valid = true) : firstFault (checksOf s i) =
    if inside a 8 ∧ inside b 8 then none else some .rangeViolation := by
  simp only [hchecks, hkey, firstFault_cons, firstFault_nil, regionOk_iff, ite_and, if_true]

theorem exec_blockCommand_ok (hkey : valid = true) (ha : inside a 8) (hb : inside b 8) :
    exec i s = .next (ended 0 (effectOf i s)) := by
  have hpass : firstFault (checksOf s i) = none := by
    rw [firstFault_blockCommand hchecks hkey, if_pos ⟨ha, hb⟩]
  rw [exec_eq, runCommand_ok _ _ hpass]
  rfl

theorem exec_blockCommand_badRegion (hkey : valid = true) (hout : ¬ (inside a 8 ∧ inside b 8)) :
    exec i s = .next (ended 3 s) := by
  have hfail : firstFault (checksOf s i) = some .rangeViolation := by
    rw [firstFault_blockCommand hchecks hkey, if_neg hout]
  rw [exec_eq, runCommand_fault _ _ hfail, raiseFault_eq_ended]
  rfl

/-- The ends of a block command, in the order of its checks. -/
theorem exec_blockCommand :
    (valid = true → inside a 8 → inside b 8 → exec i s = .next (ended 0 (effectOf i s))) ∧
    (valid = false → exec i s = .next (ended 5 s)) ∧
    (valid = true → ¬ inside a 8 → exec i s = .next (ended 3 s)) ∧
    (valid = true → inside a 8 → ¬ inside b 8 → exec i s = .next (ended 3 s)) :=
  ⟨exec_blockCommand_ok hchecks, exec_without_key hchecks,
    fun hkey ha => exec_blockCommand_badRegion hchecks hkey fun hin => ha hin.1,
    fun hkey _ hb => exec_blockCommand_badRegion hchecks hkey fun hin => hb hin.2⟩

end

/-! ## What `DES.ENC` and `DES.DEC` leave -/

theorem effectOf_desEnc (a b : Word) (s : State) : effectOf (.desEnc a b) s =
    { s with
      buf := bufWith s b (bytesBe 8 (desBlock s.dk.toList (be 64 (bytesAt s a 8))))
      l := 0, r := 0 } := rfl

theorem effectOf_desDec (a b : Word) (s : State) : effectOf (.desDec a b) s =
    { s with
      buf := bufWith s b (bytesBe 8 (desBlock s.dk.toList.reverse (be 64 (bytesAt s a 8))))
      l := 0, r := 0 } := rfl

end Sys2Proof.Machine

namespace Sys2Proof.Proofs

open Sys2Proof.Machine

/-- Settles O31: decipherment and encipherment are one computation with the subkeys in opposite orders, and
each order undoes the other by induction over the rounds, whatever `F` is. -/
theorem desBlockRoundTrip : Obligations.DesBlockRoundTrip := fun dk v =>
  ⟨desDecipher_desEncipher dk v, desEncipher_desDecipher dk v⟩

/-- Settles O29: the encoding has its must-be-zero fields zero; the key and then the two regions decide. -/
theorem desEncEnciphersOneBlock : Obligations.DesEncEnciphersOneBlock := by
  intro a b s
  rw [← effectOf_desEnc]
  exact ⟨decodeFields_ok (o := .desEnc) rfl rfl, exec_blockCommand rfl⟩

/-- Settles O30: as for `DES.ENC`; only the order of the subkeys in the block's computation differs. -/
theorem desDecDeciphersOneBlock : Obligations.DesDecDeciphersOneBlock := by
  intro a b s
  rw [← effectOf_desDec]
  exact ⟨decodeFields_ok (o := .desDec) rfl rfl, exec_blockCommand rfl⟩

end Sys2Proof.Proofs
end

section
/-! The salt of `DES.CRYPT`: which expansion positions a bit of it exchanges, what the command's checks let
through and what it leaves, and the two statements of `43_des_crypt.md` R90 and R91. -/

namespace Sys2Proof.Machine

open Sys2Proof.Spec

/-! ## The reversed salt -/

/-- Bit i of the salt is bit 23 - i of the mask, whose pair is i + 1 and i + 25 (R90). -/
theorem pos_saltSwap_bitrev24 (x : Subkey) (s : Salt) {i : Nat} (hi : i < 24) :
    pos (saltSwap x (bitrev24 s)) (i + 1) =
      (if s.getLsbD i then pos x (i + 25) else pos x (i + 1)) ∧
    pos (saltSwap x (bitrev24 s)) (i + 25) =
      (if s.getLsbD i then pos x (i + 1) else pos x (i + 25)) := by
  have hk : 23 - i < 24 := by omega
  have hbit : (bitrev24 s).getLsbD (23 - i) = s.getLsbD i := by
    rw [getLsbD_bitrev24 s _ hk, Nat.sub_sub_self (by omega)]
  have hupper : 24 - (23 - i) = i + 1 := by omega
  have hlower : 48 - (23 - i) = i + 25 := by omega
  have hpair := pos_saltSwap x (bitrev24 s) hk
  rwa [hbit, hupper, hlower] at hpair

/-! ## The passes -/

/-- The sixteen rounds of a pass use the one mask, and the halves are swapped after them (R91). -/
theorem cryptPass_eq_foldl (dk : Vector Subkey 16) (sr : Salt) (lr : Word × Word) :
    cryptPass dk sr lr = (dk.toList.foldl (fun x k => (x.2, x.1 ^^^ desF x.2 k sr)) lr).swap := rfl

/-- The swap before the output stage, which swaps again, puts the halves of the last pass in order (R91). -/
theorem desCryptBlock_eq_cryptBlock (dk : Vector Subkey 16) (n : Nat) (sr : Salt) (v : Block) :
    desCryptBlock dk n sr v = cryptBlock dk n sr v := rfl

/-! ## `DES.CRYPT` -/

/-- What `DES.CRYPT` asks of its operands (R91). -/
abbrev cryptOperandsOk (a iterations salt : Word) : Prop :=
  0 ≤ iterations.toInt ∧ (0 ≤ salt.toInt ∧ salt.toInt ≤ 0xFFFFFF) ∧ inside a 8

/-- Past the key check the operands decide, and each of them raises the same fault. -/
theorem firstFault_desCrypt {s : State} (hkey : s.dkv = true) (a iterations salt : Word) :
    firstFault (checksOf s (.desCrypt a iterations salt)) =
      if cryptOperandsOk a iterations salt then none else some .rangeViolation := by
  simp only [checksOf, blockBytes, hkey, firstFault_cons, firstFault_nil, iterationsOk_iff, saltOk_iff,
    regionOk_iff, ite_and, if_true]

theorem exec_desCrypt_ok {s : State} (hkey : s.dkv = true) {a iterations salt : Word}
    (hok : cryptOperandsOk a iterations salt) :
    exec (.desCrypt a iterations salt) s =
      .next (ended 0 (effectOf (.desCrypt a iterations salt) s)) := by
  have hpass : firstFault (checksOf s (.desCrypt a iterations salt)) = none := by
    rw [firstFault_desCrypt hkey, if_pos hok]
  rw [exec_eq, runCommand_ok _ _ hpass]
  rfl

theorem exec_desCrypt_badOperand {s : State} (hkey : s.dkv = true) {a iterations salt : Word}
    (hbad : ¬ cryptOperandsOk a iterations salt) :
    exec (.desCrypt a iterations salt) s = .next (ended 3 s) := by
  have hfail : firstFault (checksOf s (.desCrypt a iterations salt)) = some .rangeViolation := by
    rw [firstFault_desCrypt hkey, if_neg hbad]
  rw [exec_eq, runCommand_fault _ _ hfail, raiseFault_eq_ended]
  rfl

/-- The effect on the state is the pseudocode of R91 on the bytes at `a`. -/
theorem effectOf_desCrypt (a iterations salt : Word) (s : State) :
    effectOf (.desCrypt a iterations salt) s =
      { s with
        buf := bufWith s a (bytesBe 8 (cryptBlock s.dk iterations.toInt.toNat
          (bitrev24 (salt.extractLsb' 0 24)) (be 64 (bytesAt s a 8))))
        l := 0, r := 0, sr := 0 } := by
  rw [← desCryptBlock_eq_cryptBlock]
  rfl

end Sys2Proof.Machine

namespace Sys2Proof.Proofs

open Sys2Proof.Machine

/-- Settles O22: the reversal carries bit i of the salt to the bit of the mask that exchanges the pair; the
mask and the rounds of a pass are those of the definitions, the samples are evaluated. -/
theorem saltBitExchangesExpansionPositions : Obligations.SaltBitExchangesExpansionPositions := by
  refine ⟨fun x s _ => pos_saltSwap_bitrev24 x s, fun _ => rfl, cryptPass_eq_foldl, ?samples⟩
  case samples => decide

/-- Settles O33: the encoding has its must-be-zero fields zero; the key and then the operands decide, and a
condition of the last clause is one that the operands fail. -/
theorem desCryptRunsItsPasses : Obligations.DesCryptRunsItsPasses := by
  intro a iterations salt s
  rw [← effectOf_desCrypt]
  refine ⟨decodeFields_ok (o := .desCrypt) rfl rfl, ?completes, exec_without_key rfl, ?outOfRange⟩
  case completes =>
    exact fun hkey hiter hsalt0 hsalt hin => exec_desCrypt_ok hkey ⟨hiter, ⟨hsalt0, hsalt⟩, hin⟩
  case outOfRange =>
    refine fun hkey hfails => exec_desCrypt_badOperand hkey fun ⟨hiter, ⟨hsalt0, hsalt⟩, hin⟩ => ?_
    rcases hfails with hneg | hneg | hover | hout
    · exact hneg.not_ge hiter
    · exact hneg.not_ge hsalt0
    · exact hover.not_ge hsalt
    · exact hout hin

end Sys2Proof.Proofs
end

section
/-! The block of the Blowfish unit: the rounds over a list of P-array indices, why a walk over the indices in
the opposite order takes each of them back, `BF.ENC` and `BF.DEC` on states, and the four statements of
`44_bf_block.md`. -/

namespace Sys2Proof.Machine

open Sys2Proof.Spec

/-! ## The rounds of a block -/

/-- The F-function reads each S-box at one byte of its word, the most significant byte first (R101). -/
theorem bfF_eq (k : BfKey) (x : Word) : bfF k x =
    ((k.bs[0][(x.extractLsb' 24 8).toNat]'(x.extractLsb' 24 8).isLt +
      k.bs[1][(x.extractLsb' 16 8).toNat]'(x.extractLsb' 16 8).isLt) ^^^
      k.bs[2][(x.extractLsb' 8 8).toNat]'(x.extractLsb' 8 8).isLt) +
      k.bs[3][(x.extractLsb' 0 8).toNat]'(x.extractLsb' 0 8).isLt := rfl

theorem bfRounds_cons (k : BfKey) (i : Fin 18) (indices : List (Fin 18)) (x : Word × Word) :
    bfRounds k (i :: indices) x = bfRounds k indices (bfRound k x k.bp[i]) := rfl

theorem bfRounds_eq_foldl (k : BfKey) (indices : List (Fin 18)) (x : Word × Word) :
    bfRounds k indices x = ((indices.map fun i => k.bp[i]).foldl (bfRound k) x).swap := by
  rw [List.foldl_map]
  rfl

/-- One more round at the end goes in before the undone swap. -/
theorem bfRounds_concat (k : BfKey) (indices : List (Fin 18)) (i : Fin 18) (x : Word × Word) :
    bfRounds k (indices ++ [i]) x = (bfRound k (bfRounds k indices x).swap k.bp[i]).swap := by
  simp only [bfRounds_eq_foldl, List.map_append, List.foldl_append, Prod.swap_swap]
  rfl

/-! ## The words of the P-array in the order they are used -/

theorem toList_eq_map_finRange {n : Nat} (v : Vector Word n) :
    v.toList = (List.finRange n).map fun i => v[i] := by
  refine List.ext_getElem (by simp) fun i _ _ => ?_
  simp

theorem take_finRange : (List.finRange 18).take 16 = indicesUp := by decide

theorem take_reverse_finRange : (List.finRange 18).reverse.take 16 = indicesDown := by decide

theorem bfEncipher_eq_bfRounds (k : BfKey) (x : Word × Word) : bfEncipher k x =
    ((bfRounds k indicesUp x).1 ^^^ k.bp[17], (bfRounds k indicesUp x).2 ^^^ k.bp[16]) := by
  rw [bfRounds_eq_foldl, ← take_finRange, List.map_take, ← toList_eq_map_finRange]
  rfl

theorem bfDecipher_eq_bfRounds (k : BfKey) (x : Word × Word) : bfDecipher k x =
    ((bfRounds k indicesDown x).1 ^^^ k.bp[0], (bfRounds k indicesDown x).2 ^^^ k.bp[1]) := by
  rw [bfRounds_eq_foldl, ← take_reverse_finRange, List.map_take, List.map_reverse,
    ← toList_eq_map_finRange]
  rfl

/-! ## The rounds in the opposite order -/

theorem xor_xor_cancel_outer (a b c : Word) : a ^^^ b ^^^ c ^^^ b = a ^^^ c := by
  rw [BitVec.xor_assoc a b c, BitVec.xor_comm b c, ← BitVec.xor_assoc a c b,
    BitVec.xor_assoc (a ^^^ c), BitVec.xor_self, BitVec.xor_zero]

/-- A round with `p` is taken back by a round with `r`, when its halves were swapped and `q` and `r` XORed
into them: that leaves `p` and `q` XORed into the halves the first round was given (R103). -/
theorem bfRound_swap_bfRound (k : BfKey) (x : Word × Word) (p q r : Word) :
    (bfRound k ((bfRound k x p).1 ^^^ q, (bfRound k x p).2 ^^^ r).swap r).swap =
      (x.1 ^^^ p, x.2 ^^^ q) := by
  simp only [bfRound, Prod.swap, BitVec.xor_assoc _ r r, BitVec.xor_self, BitVec.xor_zero,
    xor_xor_cancel_outer]

/-- The walk over `up` ends with the words of `m` and `n`. The walk over the same indices from the far end,
which leaves out the first two, arrives at the pair it began with, the words of these two XORed into it. -/
theorem bfRounds_reverse_bfRounds (k : BfKey) (up : List (Fin 18)) {m n i j : Fin 18}
    {rest : List (Fin 18)} (hall : up ++ [m, n] = i :: j :: rest) (x : Word × Word) :
    bfRounds k rest.reverse ((bfRounds k up x).1 ^^^ k.bp[n], (bfRounds k up x).2 ^^^ k.bp[m]) =
      (x.1 ^^^ k.bp[i], x.2 ^^^ k.bp[j]) := by
  induction up generalizing i j rest x with
  | nil =>
    obtain ⟨rfl, rfl, rfl⟩ : m = i ∧ n = j ∧ [] = rest := by simpa using hall
    rfl
  | cons u up ih =>
    obtain ⟨rfl, htail⟩ : u = i ∧ up ++ [m, n] = j :: rest := by simpa using hall
    cases rest with
    | nil => simpa using congrArg List.length htail
    | cons r rest =>
      rw [bfRounds_cons, List.reverse_cons, bfRounds_concat, ih htail, bfRound_swap_bfRound]

/-- The rounds downward arrive at the pair that was enciphered, up to the two words they leave out. -/
theorem bfRounds_bfEncipher (k : BfKey) (x : Word × Word) :
    bfRounds k indicesDown (bfEncipher k x) = (x.1 ^^^ k.bp[0], x.2 ^^^ k.bp[1]) := by
  rw [bfEncipher_eq_bfRounds]
  exact bfRounds_reverse_bfRounds k indicesUp (m := 16) (n := 17) (rest := indicesDown.reverse) rfl x

/-- The rounds upward arrive at the pair that was deciphered, up to the two words they leave out. -/
theorem bfRounds_bfDecipher (k : BfKey) (x : Word × Word) :
    bfRounds k indicesUp (bfDecipher k x) = (x.1 ^^^ k.bp[17], x.2 ^^^ k.bp[16]) := by
  rw [bfDecipher_eq_bfRounds]
  exact bfRounds_reverse_bfRounds k indicesDown (m := 1) (n := 0) (rest := indicesUp.reverse) rfl x

theorem bfDecipher_bfEncipher (k : BfKey) (x : Word × Word) : bfDecipher k (bfEncipher k x) = x := by
  simp only [bfDecipher_eq_bfRounds, bfRounds_bfEncipher, BitVec.xor_assoc, BitVec.xor_self,
    BitVec.xor_zero]

theorem bfEncipher_bfDecipher (k : BfKey) (x : Word × Word) : bfEncipher k (bfDecipher k x) = x := by
  simp only [bfEncipher_eq_bfRounds, bfRounds_bfDecipher, BitVec.xor_assoc, BitVec.xor_self,
    BitVec.xor_zero]

/-! ## What `BF.ENC` and `BF.DEC` read and leave -/

theorem Memory.readBytes_add (m : Memory) (addr n n' : Nat) :
    m.readBytes addr (n + n') = m.readBytes addr n ++ m.readBytes (addr + n) n' := by
  simp [Memory.readBytes, List.range_add, Nat.add_assoc]

/-- The eight bytes a command reads are those of its two words (R100). -/
theorem readPair_eq_pairAt (s : State) (a : Word) : readPair s a = pairAt s a := by
  have hsplit : readRegion s a blockBytes =
      s.buf.readBytes (regionStart a) 4 ++ s.buf.readBytes (regionStart a + 4) 4 :=
    Memory.readBytes_add s.buf (regionStart a) 4 4
  have hlen : (s.buf.readBytes (regionStart a) 4).length = 4 := by simp
  rw [readPair, hsplit, List.take_left' hlen, List.drop_left' hlen]
  rfl

theorem effectOf_bfEnc (a b : Word) (s : State) : effectOf (.bfEnc a b) s =
    { s with
      buf := bufWith s b (bytesBe 4 (bfEncipher s.bf (pairAt s a)).1 ++
        bytesBe 4 (bfEncipher s.bf (pairAt s a)).2)
      xl := 0, xr := 0 } := by
  rw [← readPair_eq_pairAt]
  rfl

theorem effectOf_bfDec (a b : Word) (s : State) : effectOf (.bfDec a b) s =
    { s with
      buf := bufWith s b (bytesBe 4 (bfDecipher s.bf (pairAt s a)).1 ++
        bytesBe 4 (bfDecipher s.bf (pairAt s a)).2)
      xl := 0, xr := 0 } := by
  rw [← readPair_eq_pairAt]
  rfl

end Sys2Proof.Machine

namespace Sys2Proof.Proofs

open Sys2Proof.Machine

/-- Settles O38: encipherment and decipherment are walks over the P-array from opposite ends, and by
induction over the rounds either walk takes back the other, whatever `F` is. -/
theorem bfBlockRoundTrip : Obligations.BfBlockRoundTrip := fun k x =>
  ⟨bfDecipher_eq_bfRounds k x, bfDecipher_bfEncipher k x, bfEncipher_bfDecipher k x⟩

/-- Settles O37: the first sixteen words of the P-array are those of the indices 0 to 15; the examples on the
initial constants are evaluated. -/
theorem bfEncipherRunsItsRounds : Obligations.BfEncipherRunsItsRounds := by
  refine ⟨bfF_eq, bfEncipher_eq_bfRounds, ?samples⟩
  case samples => decide +kernel

/-- Settles O39: the encoding has its must-be-zero fields zero; the key and then the two regions decide, as
for the block commands of the DES unit. -/
theorem bfEncEnciphersOneBlock : Obligations.BfEncEnciphersOneBlock := by
  intro a b s
  rw [← effectOf_bfEnc]
  exact ⟨decodeFields_ok (o := .bfEnc) rfl rfl, exec_blockCommand rfl⟩

/-- Settles O40: as for `BF.ENC`; only the walk over the P-array differs. -/
theorem bfDecDeciphersOneBlock : Obligations.BfDecDeciphersOneBlock := by
  intro a b s
  rw [← effectOf_bfDec]
  exact ⟨decodeFields_ok (o := .bfDec) rfl rfl, exec_blockCommand rfl⟩

end Sys2Proof.Proofs
end

section
/-! The key schedule of the Blowfish unit: the words of a byte string and what of it they depend on, the
expansion as the loops of R112 with their running salt index, and the two commands that load and erase a key
state; then the five statements of `45_bf_key_schedule.md`. -/

namespace Sys2Proof.Machine

open Sys2Proof.Spec

/-! ## The words of a byte string -/

/-- One byte of the loop of R111, met at an index that has wrapped as often as it must. -/
theorem streamStep_mod (data : List Byte) (signext : Bool) (t : Word) (j : Nat) :
    streamStep data signext (t, j % data.length) =
      ((t <<< 8) ||| extendByte signext (data.getD (j % data.length) 0), (j + 1) % data.length) := by
  rw [← Nat.mod_add_mod j data.length 1]
  rfl

theorem streamStep_iterate (data : List Byte) (signext : Bool) (t : Word) (j n : Nat) :
    (streamStep data signext)^[n] (t, j % data.length) =
      ((List.range n).foldl (fun (t : Word) q =>
        (t <<< 8) ||| extendByte signext (data.getD ((j + q) % data.length) 0)) t,
        (j + n) % data.length) := by
  induction n with
  | zero => rfl
  | succ n ih =>
    rw [Function.iterate_succ_apply', ih, streamStep_mod, List.range_succ, List.foldl_append]
    rfl

/-- The four bytes of a word: they are those of the closed form, and the index runs on by four (R111). -/
theorem streamStep_word (data : List Byte) (signext : Bool) (j : Nat) :
    (streamStep data signext)^[4] (0, j % data.length) =
      (streamWord data signext j, (j + 4) % data.length) :=
  streamStep_iterate data signext 0 j 4

theorem streamLoop_eq_ofFn (data : List Byte) (signext : Bool) (n j : Nat) :
    streamLoop data signext n (j % data.length) =
      List.ofFn fun w : Fin n => streamWord data signext (j + 4 * w.val) := by
  induction n generalizing j with
  | zero => rfl
  | succ n ih =>
    simp only [streamLoop, streamStep_word, ih, List.ofFn_succ]
    simp [Nat.mul_add, Nat.add_assoc, Nat.add_comm 4]

theorem toList_streamWords (data : List Byte) (n : Nat) (signext : Bool) :
    (streamWords data n signext).toList = streamLoop data signext n 0 := by
  rw [← Nat.zero_mod data.length, streamLoop_eq_ofFn, streamWords, Vector.toList_ofFn]
  simp

/-- The words see of a byte string only its first 4n extended bytes, read cyclically (R111, R115). -/
theorem streamWords_congr {data data' : List Byte} {signext signext' : Bool} {n : Nat}
    (h : ∀ i, i < 4 * n → extendByte signext (data.getD (i % data.length) 0) =
      extendByte signext' (data'.getD (i % data'.length) 0)) :
    streamWords data n signext = streamWords data' n signext' := by
  refine Vector.ext fun w hw => ?_
  simp only [streamWords, Vector.getElem_ofFn, streamWord]
  refine List.foldl_ext _ _ _ fun t q hq => ?_
  have hq4 : q < 4 := List.mem_range.mp hq
  rw [h (4 * w + q) (by omega)]

/-- The sign of a byte below 0x80 is 0. -/
theorem extendByte_eq_of_lt {b : Byte} (hb : b.toNat < 0x80) :
    extendByte true b = extendByte false b := by
  have hmsb : b.msb = false := BitVec.msb_eq_false_iff_two_mul_lt.mpr (by omega)
  exact BitVec.signExtend_eq_setWidth_of_msb_false hmsb

theorem streamWords_signext {data : List Byte} (hlow : ∀ b ∈ data, b.toNat < 0x80) (n : Nat) :
    streamWords data n true = streamWords data n false := by
  refine streamWords_congr fun i _ => extendByte_eq_of_lt ?_
  rcases Nat.lt_or_ge (i % data.length) data.length with hin | hout
  · rw [List.getD_eq_getElem _ _ hin]
    exact hlow _ (List.getElem_mem hin)
  · rw [List.getD_eq_default _ _ hout]
    decide

/-! ## The blocks of an expansion -/

/-- The chain of the model as the loops of R112 carry it. -/
def ExpandChain.toChain (st : ExpandChain) : Chain := (st.key, st.xl, st.xr, st.j.val)

/-- The salt index is at the first word of a pair; otherwise its addition modulo 4 would show inside a
block. -/
def ExpandChain.aligned (st : ExpandChain) : Prop := st.j = 0 ∨ st.j = 2

theorem chainBlock_aligned (sw : Vector Word 4) {st : ExpandChain} (h : st.aligned) :
    (chainBlock sw st).aligned := by
  rcases h with h | h <;> simp [ExpandChain.aligned, chainBlock, h]

theorem expandP_aligned (sw : Vector Word 4) {st : ExpandChain} (h : st.aligned) (i : Nat) :
    (expandP sw st i).aligned := chainBlock_aligned sw h

theorem expandS_aligned (sw : Vector Word 4) (b : Fin 4) {st : ExpandChain} (h : st.aligned) (i : Nat) :
    (expandS sw b st i).aligned := chainBlock_aligned sw h

/-- At the first word of a pair both salt words are found without wrapping. -/
theorem chainStep_toList (sw : Vector Word 4) {st : ExpandChain} (h : st.aligned) :
    chainStep sw.toList st.key st.xl st.xr st.j.val =
      ((chainBlock sw st).xl, (chainBlock sw st).xr) := by
  rcases h with h | h <;> simp [chainStep, chainBlock, h]

/-- Two words stored at neighbouring indices of an array. -/
theorem setIfInBounds_pair {n : Nat} (v : Vector Word n) (i : Nat) (x y : Word) :
    (v.setIfInBounds (2 * i) x).setIfInBounds (2 * i + 1) y = Vector.ofFn fun m : Fin n =>
      if m.val = 2 * i then x else if m.val = 2 * i + 1 then y else v[m] := by
  refine Vector.ext fun m hm => ?_
  simp only [Vector.getElem_setIfInBounds, Vector.getElem_ofFn]
  grind

/-- Two words stored in one S-box leave the other three as they were. -/
theorem set_setIfInBounds_pair (v : Vector (Vector Word 256) 4) (b : Fin 4) (i : Nat) (x y : Word) :
    v.set b ((v[b].setIfInBounds (2 * i) x).setIfInBounds (2 * i + 1) y) =
      Vector.ofFn fun c : Fin 4 => Vector.ofFn fun m : Fin 256 =>
        if c.val = b.val ∧ m.val = 2 * i then x
        else if c.val = b.val ∧ m.val = 2 * i + 1 then y else v[c][m] := by
  refine Vector.ext fun c hc => ?_
  rw [setIfInBounds_pair, Vector.getElem_set, Vector.getElem_ofFn]
  by_cases hbc : b.val = c
  · obtain rfl : b = ⟨c, hc⟩ := Fin.ext hbc
    simp
  · refine Vector.ext fun m hm => ?_
    simp [hbc, Ne.symm hbc]

theorem expandP_key (sw : Vector Word 4) (st : ExpandChain) (i : Nat) : (expandP sw st i).key =
    withPPair st.key i (chainBlock sw st).xl (chainBlock sw st).xr :=
  congrArg (BfKey.mk · st.key.bs) (setIfInBounds_pair st.key.bp i _ _)

theorem expandS_key (sw : Vector Word 4) (b : Fin 4) (st : ExpandChain) (i : Nat) :
    (expandS sw b st i).key =
      withSPair st.key b.val i (chainBlock sw st).xl (chainBlock sw st).xr :=
  congrArg (BfKey.mk st.key.bp) (set_setIfInBounds_pair st.key.bs b i _ _)

theorem toChain_expandP (sw : Vector Word 4) (st : ExpandChain) (i : Nat) :
    (expandP sw st i).toChain =
      (withPPair st.key i (chainBlock sw st).xl (chainBlock sw st).xr,
        (chainBlock sw st).xl, (chainBlock sw st).xr, (st.j.val + 2) % 4) := by
  rw [← expandP_key]
  rfl

theorem toChain_expandS (sw : Vector Word 4) (b : Fin 4) (st : ExpandChain) (i : Nat) :
    (expandS sw b st i).toChain =
      (withSPair st.key b.val i (chainBlock sw st).xl (chainBlock sw st).xr,
        (chainBlock sw st).xl, (chainBlock sw st).xr, (st.j.val + 2) % 4) := by
  rw [← expandS_key]
  rfl

/-- The P-array loop over any list of blocks. -/
theorem pLoop_toChain (sw : Vector Word 4) (blocks : List Nat) {st : ExpandChain} (h : st.aligned) :
    pLoop sw.toList blocks st.toChain = (blocks.foldl (expandP sw) st).toChain := by
  induction blocks generalizing st with
  | nil => rfl
  | cons i blocks ih =>
    rw [List.foldl_cons, ← ih (expandP_aligned sw h i), toChain_expandP]
    simp only [ExpandChain.toChain, pLoop, chainStep_toList sw h]

/-- The S-box loops over any list of blocks. -/
theorem sLoop_toChain (sw : Vector Word 4) (blocks : List (Fin 4 × Nat)) {st : ExpandChain}
    (h : st.aligned) :
    sLoop sw.toList (blocks.map fun p => (p.1.val, p.2)) st.toChain =
      (blocks.foldl (fun st p => expandS sw p.1 st p.2) st).toChain := by
  induction blocks generalizing st with
  | nil => rfl
  | cons p blocks ih =>
    rw [List.foldl_cons, ← ih (expandS_aligned sw p.1 h p.2), toChain_expandS]
    simp only [ExpandChain.toChain, List.map_cons, sLoop, chainStep_toList sw h]

/-! ## The expansion -/

/-- The pairs of S-box and block number of the nested loops of R112, S-box by S-box. -/
def sBlockPairs : List (Fin 4 × Nat) :=
  (List.finRange 4).flatMap fun b => (List.range 128).map fun i => (b, i)

theorem sBlocks_eq_map : sBlocks = sBlockPairs.map fun p => (p.1.val, p.2) := by
  simp only [sBlocks, sBlockPairs, List.map_flatMap, List.map_map]
  rfl

theorem length_sBlocks : sBlocks.length = 4 * 128 := by simp [sBlocks]

/-- The key words are XORed into the P-array before the first block (R112). -/
def mixKey (k : BfKey) (kw : Vector Word 18) : BfKey := { k with bp := Vector.zipWith (· ^^^ ·) k.bp kw }

/-- The chain of the model before its first block, a key state with the zero block and salt index 0. -/
def zeroChain (k : BfKey) : ExpandChain := ⟨k, 0, 0, 0⟩

theorem zeroChain_aligned (k : BfKey) : (zeroChain k).aligned := .inl rfl

/-- The chain of the model after the P-array loop. -/
def pChainState (k : BfKey) (kw : Vector Word 18) (sw : Vector Word 4) : ExpandChain :=
  (List.range 9).foldl (expandP sw) (zeroChain (mixKey k kw))

theorem bfExpand_eq_foldl (k : BfKey) (kw : Vector Word 18) (sw : Vector Word 4) :
    bfExpand k kw sw =
      (sBlockPairs.foldl (fun st p => expandS sw p.1 st p.2) (pChainState k kw sw)).key := by
  simp only [sBlockPairs, List.foldl_flatMap, List.foldl_map]
  rfl

theorem bp_mixKey (k : BfKey) (kw : Vector Word 18) :
    (mixKey k kw).bp = Vector.ofFn fun m => k.bp[m] ^^^ kw[m] :=
  Vector.ext fun m hm => by simp [mixKey]

theorem pChain_eq_pLoop (k : BfKey) (kw : Vector Word 18) (sw : Vector Word 4) :
    pChain k kw sw = pLoop sw.toList (List.range 9) (zeroChain (mixKey k kw)).toChain := by
  rw [pChain, ← bp_mixKey]
  rfl

theorem foldl_expandP_aligned (sw : Vector Word 4) (blocks : List Nat) {st : ExpandChain}
    (h : st.aligned) : (blocks.foldl (expandP sw) st).aligned := by
  induction blocks generalizing st with
  | nil => exact h
  | cons i blocks ih => exact ih (expandP_aligned sw h i)

theorem pChain_eq_toChain (k : BfKey) (kw : Vector Word 18) (sw : Vector Word 4) :
    pChain k kw sw = (pChainState k kw sw).toChain := by
  rw [pChain_eq_pLoop]
  exact pLoop_toChain sw (List.range 9) (zeroChain_aligned _)

/-- An expansion is the loop of R112. -/
theorem bfExpand_eq_expandLoop (k : BfKey) (kw : Vector Word 18) (sw : Vector Word 4) :
    bfExpand k kw sw = expandLoop k kw sw := by
  have haligned : (pChainState k kw sw).aligned := foldl_expandP_aligned sw _ (zeroChain_aligned _)
  rw [expandLoop, pChain_eq_toChain, sBlocks_eq_map, sLoop_toChain sw sBlockPairs haligned,
    bfExpand_eq_foldl, ExpandChain.toChain]

/-- Each block of the P-array loop moves the salt index on by two (R112). -/
theorem pLoop_saltIndex (sw : List Word) (blocks : List Nat) (st : Chain) (h : st.2.2.2 < 4) :
    (pLoop sw blocks st).2.2.2 = (st.2.2.2 + 2 * blocks.length) % 4 := by
  induction blocks generalizing st with
  | nil => exact (Nat.mod_eq_of_lt h).symm
  | cons i blocks ih =>
    obtain ⟨k, xl, xr, j⟩ := st
    rw [pLoop, ih _ (Nat.mod_lt _ (by decide)), List.length_cons]
    dsimp only
    omega

theorem pChain_saltIndex (k : BfKey) (kw : Vector Word 18) (sw : Vector Word 4) :
    (pChain k kw sw).2.2.2 = 2 := by
  have hzero : (zeroChain (mixKey k kw)).toChain.2.2.2 = 0 := rfl
  rw [pChain_eq_pLoop, pLoop_saltIndex _ _ _ (by omega), hzero, List.length_range]

/-! ## The first two words of the expanded P-array -/

/-- No salt changes no block (R112). -/
theorem chainStep_noSalt (k : BfKey) (xl xr : Word) (j : Nat) :
    chainStep noSalt.toList k xl xr j = bfEncipher k (xl, xr) := by
  have hzero : ∀ m, noSalt.toList.getD m 0 = 0 := fun m => by
    rw [noSalt, Vector.toList_replicate]
    exact List.getElem?_getD_replicate_default_eq 0 4 m
  simp only [chainStep, hzero]
  exact congrArg (bfEncipher k) (Prod.ext BitVec.xor_zero BitVec.xor_zero)

theorem sLoop_bp (sw : List Word) (blocks : List (Nat × Nat)) (st : Chain) :
    (sLoop sw blocks st).1.bp = st.1.bp := by
  induction blocks generalizing st with
  | nil => rfl
  | cons p blocks ih =>
    rw [sLoop, ih]
    rfl

/-- Block i of the P-array loop stores the words 2i and 2i + 1 alone. -/
theorem pLoop_bp_of_notMem (sw : List Word) (blocks : List Nat) (st : Chain) (m : Fin 18)
    (h : m.val / 2 ∉ blocks) : (pLoop sw blocks st).1.bp[m] = st.1.bp[m] := by
  induction blocks generalizing st with
  | nil => rfl
  | cons i blocks ih =>
    obtain ⟨hi, hrest⟩ := List.ne_and_not_mem_of_not_mem_cons h
    have hne : m.val ≠ 2 * i ∧ m.val ≠ 2 * i + 1 := by omega
    rw [pLoop, ih _ hrest]
    simp [withPPair, hne]

/-- The first two words are the first block of the loop; no later block stores there (R112). -/
theorem pLoop_firstPair (sw : List Word) {blocks : List Nat} (h : 0 ∉ blocks) (k : BfKey) (xl xr : Word)
    (j : Nat) :
    ((pLoop sw (0 :: blocks) (k, xl, xr, j)).1.bp[0], (pLoop sw (0 :: blocks) (k, xl, xr, j)).1.bp[1]) =
      chainStep sw k xl xr j := by
  have hkeep := fun (st : Chain) (m : Fin 18) (hm : m.val / 2 = 0) =>
    pLoop_bp_of_notMem sw blocks st m (hm ▸ h)
  rw [pLoop]
  refine Prod.ext ((hkeep _ 0 rfl).trans ?_) ((hkeep _ 1 rfl).trans ?_) <;> simp [withPPair]

theorem expandLoop_firstPair (k : BfKey) (kw : Vector Word 18) (sw : Vector Word 4) :
    ((expandLoop k kw sw).bp[0], (expandLoop k kw sw).bp[1]) =
      chainStep sw.toList (mixKey k kw) 0 0 0 := by
  have hlater : 0 ∉ (List.range 8).map Nat.succ := by decide
  rw [expandLoop, sLoop_bp, pChain_eq_pLoop, List.range_succ_eq_map]
  exact pLoop_firstPair sw.toList hlater (mixKey k kw) 0 0 0

/-! ## Keys -/

theorem bfSchedule_eq_expandLoop (key : List Byte) : bfSchedule key =
    expandLoop bfInitKey (streamWords key 18 false) (Vector.replicate 4 0) :=
  bfExpand_eq_expandLoop _ _ _

/-- The setup of bcrypt is the loop of R120. -/
theorem eksSetup_eq_eksLoop (kw : Vector Word 18) (salt : List Byte) (cost : Nat) :
    eksSetup kw salt cost = eksLoop kw salt cost := by
  have hrepeat : eksRepeat kw (streamWords salt 18 false) = fun k =>
      expandLoop (expandLoop k kw (Vector.replicate 4 0)) (streamWords salt 18 false)
        (Vector.replicate 4 0) :=
    funext fun k => by rw [eksRepeat, bfExpand_eq_expandLoop, bfExpand_eq_expandLoop]; rfl
  rw [eksSetup, hrepeat, bfExpand_eq_expandLoop]
  rfl

/-- Keys with equal cyclic extensions to 72 bytes give the same key state (R115). -/
theorem bfSchedule_congr {key key' : List Byte}
    (h : ∀ i, i < 72 → key.getD (i % key.length) 0 = key'.getD (i % key'.length) 0) :
    bfSchedule key = bfSchedule key' := by
  have hwords : streamWords key 18 false = streamWords key' 18 false :=
    streamWords_congr fun i hi => by rw [h i hi]
  rw [bfSchedule, hwords, bfSchedule]

theorem bfSchedule_zeros (m n : Nat) :
    bfSchedule (List.replicate m 0) = bfSchedule (List.replicate n 0) :=
  bfSchedule_congr fun i _ => by simp

/-- A byte string read cyclically and the same string written twice read alike. -/
theorem getD_mod_append_self {key : List Byte} (hne : key ≠ []) (i : Nat) :
    (key ++ key).getD (i % (key ++ key).length) 0 = key.getD (i % key.length) 0 := by
  have hmod : i % (key ++ key).length % key.length = i % key.length :=
    Nat.mod_mod_of_dvd i (by simp)
  rcases Nat.lt_or_ge (i % (key ++ key).length) key.length with hfirst | hsecond
  · rw [List.getD_append _ _ _ _ hfirst, ← hmod, Nat.mod_eq_of_lt hfirst]
  · have hlt : i % (key ++ key).length - key.length < key.length := by
      have hpos := List.length_pos_of_ne_nil hne
      have hin := Nat.mod_lt i (List.length_pos_of_ne_nil (List.append_ne_nil_of_left_ne_nil hne key))
      have hlen : (key ++ key).length = key.length + key.length := List.length_append
      omega
    rw [List.getD_append_right _ _ _ _ hsecond, ← hmod, Nat.mod_eq_sub_mod hsecond,
      Nat.mod_eq_of_lt hlt]

/-! ## `BF.KEY` -/

/-- Both checks of `BF.KEY` raise the same fault, so they count as one. -/
theorem firstFault_bfKey (a : Word) (len : BitVec 16) (s : State) :
    firstFault (checksOf s (.bfKey a len)) =
      if (1 ≤ len.toNat ∧ len.toNat ≤ 72) ∧ inside a len.toNat then none
      else some .rangeViolation := by
  simp only [checksOf, uint, firstFault_cons, firstFault_nil, bfKeyLenOk_iff, regionOk_iff, ite_and]

theorem clearX_loadBfKey (k : BfKey) (s : State) :
    clearX (loadBfKey k s) = { s with bf := k, bfv := true, xl := 0, xr := 0 } := rfl

theorem effectOf_bfKey (a : Word) (len : BitVec 16) (s : State) : effectOf (.bfKey a len) s =
    { s with bf := bfSchedule (bytesAt s a len.toNat), bfv := true, xl := 0, xr := 0 } :=
  clearX_loadBfKey _ _

theorem complete_ok_eq_ended (s : State) : complete .ok s = ended 0 s := rfl

/-- With both checks passed the key state of the bytes is loaded and the core ends with OK (R113). -/
theorem exec_bfKey_ok {a : Word} {len : BitVec 16} (hlen : 1 ≤ len.toNat ∧ len.toNat ≤ 72)
    (hin : inside a len.toNat) (s : State) :
    exec (.bfKey a len) s = .next (ended 0 (effectOf (.bfKey a len) s)) := by
  have hpass : firstFault (checksOf s (.bfKey a len)) = none := by
    rw [firstFault_bfKey, if_pos ⟨hlen, hin⟩]
  rw [exec_eq, runCommand_ok _ _ hpass, complete_ok_eq_ended]

theorem exec_bfKey_badOperand {a : Word} {len : BitVec 16}
    (hbad : ¬ ((1 ≤ len.toNat ∧ len.toNat ≤ 72) ∧ inside a len.toNat)) (s : State) :
    exec (.bfKey a len) s = .next (ended 3 s) := by
  have hfail : firstFault (checksOf s (.bfKey a len)) = some .rangeViolation := by
    rw [firstFault_bfKey, if_neg hbad]
  rw [exec_eq, runCommand_fault _ _ hfail, raiseFault_eq_ended]
  rfl

end Sys2Proof.Machine

namespace Sys2Proof.Proofs

open Sys2Proof.Machine

/-- Settles O42: the index that wraps step by step is the one reduced at once; a sign extension differs from a
zero extension in a byte with its top bit set only; the samples are evaluated. -/
theorem streamWordsFollowTheRunningIndex : Obligations.StreamWordsFollowTheRunningIndex := by
  refine ⟨fun data n signext _ => toList_streamWords data n signext,
    fun _ n hlow => streamWords_signext hlow n, bfSchedule_eq_expandLoop, eksSetup_eq_eksLoop, ?samples⟩
  case samples => decide

/-- Settles O43: block by block the model's chain is that of the loops, because the salt index stays at the
first word of a pair; the first P-array pair is stored by the first block and by no other. -/
theorem expansionChainsFromTheZeroBlock : Obligations.ExpansionChainsFromTheZeroBlock := by
  refine ⟨fun k kw sw => ⟨bfExpand_eq_expandLoop k kw sw, pChain_saltIndex k kw sw⟩, length_sBlocks,
    chainStep_noSalt, fun k kw => ?firstPair⟩
  case firstPair =>
    rw [bfExpand_eq_expandLoop, expandLoop_firstPair, chainStep_noSalt]
    rfl

/-- Settles O44: the encoding has its must-be-zero fields zero; length and region decide with one fault, and
the key state loaded is the expansion of R112. -/
theorem bfKeyLoadsTheKeyState : Obligations.BfKeyLoadsTheKeyState := by
  intro a len s
  rw [← bfSchedule_eq_expandLoop, ← effectOf_bfKey]
  refine ⟨decodeFields_ok (o := .bfKey) rfl rfl,
    fun hmin hmax hin => exec_bfKey_ok ⟨hmin, hmax⟩ hin s, ?outOfRange⟩
  case outOfRange =>
    refine fun hfails => exec_bfKey_badOperand (fun ⟨⟨hmin, hmax⟩, hin⟩ => ?_) s
    rcases hfails with hshort | hlong | hout
    · exact hshort.not_ge hmin
    · exact hlong.not_ge hmax
    · exact hout hin

/-- Settles O46: the key words are all the expansion takes of a key, and they are read cyclically. -/
theorem equalCyclicKeysGiveEqualStates : Obligations.EqualCyclicKeysGiveEqualStates :=
  ⟨fun _ _ _ _ => bfSchedule_congr, bfSchedule_zeros 1 3, bfSchedule_zeros 1 8,
    fun _ hne _ => bfSchedule_congr fun i _ => (getD_mod_append_self hne i).symm⟩

/-- Settles O45: `BF.CLR` checks nothing, and the flag it clears is the first check of `BF.ENC`. -/
theorem bfClrErasesTheKeyState : Obligations.BfClrErasesTheKeyState :=
  ⟨decodeFields_ok (o := .bfClr) rfl rfl,
    fun s => ⟨_, exec_bfClr s, rfl, fun _ _ => exec_without_key rfl rfl⟩⟩

end Sys2Proof.Proofs
end

section
/-! bcrypt: when two words of a byte string are the same, the text blocks enciphered each on its own, and
`BF.BCRYPT` on states with the key state it leaves; then the four statements of `46_bf_bcrypt.md`. -/

namespace Sys2Proof.Machine

open Sys2Proof.Spec

/-! ## Words that repeat -/

theorem getElem_streamWords (data : List Byte) (signext : Bool) {n i : Nat} (hi : i < n) :
    (streamWords data n signext)[i] = streamWord data signext (4 * i) := by
  simp [streamWords]

/-- A word depends on its byte index only up to whole turns of the string (R111). -/
theorem streamWord_congr_mod {data : List Byte} {j j' : Nat}
    (h : j % data.length = j' % data.length) (signext : Bool) :
    streamWord data signext j = streamWord data signext j' := by
  refine List.foldl_ext _ _ _ fun t q _ => ?_
  rw [Nat.ModEq.add_right q h]

/-- A string of 16 bytes comes round after four words (R120). -/
theorem streamWord_mod_four {data : List Byte} (hlen : data.length = 16) (signext : Bool) (i : Nat) :
    streamWord data signext (4 * i) = streamWord data signext (4 * (i % 4)) := by
  refine streamWord_congr_mod ?_ signext
  rw [hlen]
  omega

/-- A string that comes round within one word gives the same word throughout. -/
theorem streamWords_of_length_dvd {data : List Byte} (hdvd : data.length ∣ 4) (n : Nat)
    (signext : Bool) :
    streamWords data n signext = Vector.replicate n (streamWord data signext 0) := by
  refine Vector.ext fun i hi => ?_
  have hturn : 4 * i % data.length = 0 % data.length :=
    (Nat.mod_eq_zero_of_dvd (hdvd.mul_right i)).trans (Nat.zero_mod _).symm
  rw [getElem_streamWords, Vector.getElem_replicate, streamWord_congr_mod hturn]

/-! ## The digest -/

/-- Repeating a function on every block of a list repeats it on each block on its own. -/
theorem iterate_map_eq_map_iterate {α : Type} (f : α → α) (n : Nat) (blocks : List α) :
    (List.map f)^[n] blocks = blocks.map f^[n] := by
  induction n with
  | zero => simp
  | succ n ih => rw [Function.iterate_succ_apply', ih, List.map_map, Function.iterate_succ']

theorem bcryptFull_eq_fullDigest (k : BfKey) : bcryptFull k = fullDigest k := by
  rw [bcryptFull, iterate_map_eq_map_iterate, List.flatMap_map]
  rfl

theorem length_fullDigest (k : BfKey) : (fullDigest k).length = 24 := by
  rw [← bcryptFull_eq_fullDigest, length_bcryptFull]

theorem bcryptDigest_eq_take (k : BfKey) : bcryptDigest k = (fullDigest k).take 23 := by
  rw [bcryptDigest, bcryptFull_eq_fullDigest, bcryptLength]

/-- The digest comes from the setup loop of R120 and the text loop of R122. -/
theorem bcrypt_eq (key salt : List Byte) (cost : Nat) (signbug : Bool) :
    bcrypt key salt cost signbug =
      (fullDigest (eksLoop (streamWords key 18 signbug) salt cost)).take 23 := by
  rw [bcrypt, eksSetup_eq_eksLoop, bcryptDigest_eq_take]

/-- All the digest takes of a key and of `SIGNBUG` is the 18 key words (R124). -/
theorem bcrypt_congr {key key' : List Byte} {signbug signbug' : Bool}
    (hwords : streamWords key 18 signbug = streamWords key' 18 signbug') (salt : List Byte)
    (cost : Nat) : bcrypt key salt cost signbug = bcrypt key' salt cost signbug' := by
  rw [bcrypt, hwords, bcrypt]

/-! ## `BF.BCRYPT` -/

/-- `FLAGS` 0 and 1 leave every reserved bit zero (R49). -/
theorem flagsReservedZero_of_lt {flags : Byte} (h : flags.toNat < 2) :
    flagsReservedZero flags = true := by
  have hcases : flags = 0 ∨ flags = 1 := by bv_omega
  rcases hcases with rfl | rfl <;> decide

/-- The operands `BF.BCRYPT` completes with: length, cost and the three regions (R123). -/
structure BcryptOperandsOk (key : Word) (len : BitVec 16) (salt cost out : Word) : Prop where
  lenOk : 1 ≤ len.toNat ∧ len.toNat ≤ 72
  costOk : 4 ≤ cost.toInt ∧ cost.toInt ≤ 31
  keyInside : inside key len.toNat
  saltInside : inside salt 16
  outInside : inside out 23

section
variable {key : Word} {len : BitVec 16} {salt cost out : Word}

theorem firstFault_bfBcrypt_eq_none_iff (flags : Byte) (s : State) :
    firstFault (checksOf s (.bfBcrypt key len salt cost out flags)) = none ↔
      BcryptOperandsOk key len salt cost out := by
  rw [firstFault_eq_none_iff]
  simp only [checksOf, List.forall_mem_cons, bfKeyLenOk_iff, costOk_iff, regionOk_iff]
  exact ⟨fun ⟨hlen, hcost, hkey, hsalt, hout, _⟩ => ⟨hlen, hcost, hkey, hsalt, hout⟩,
    fun h => ⟨h.lenOk, h.costOk, h.keyInside, h.saltInside, h.outInside, nofun⟩⟩

/-- Every check of `BF.BCRYPT` raises the same fault. -/
theorem firstFault_bfBcrypt_eq_some {flags : Byte} {s : State} {f : Completion}
    (h : firstFault (checksOf s (.bfBcrypt key len salt cost out flags)) = some f) :
    f = .rangeViolation := by
  have hmem := firstFault_mem h
  simp only [checksOf, List.mem_cons, List.not_mem_nil, Prod.mk.injEq, or_false,
    ← or_and_right] at hmem
  exact hmem.2

/-- Said of any bytes, so that no digest is evaluated. -/
theorem clearX_eraseBfKey_writeRegion (off : Word) (bytes : List Byte) (s : State) :
    clearX (eraseBfKey (writeRegion off bytes s)) =
      { s with buf := bufWith s off bytes, bf := bfKeyZero, bfv := false, xl := 0, xr := 0 } := rfl

/-- The digest at the output region, the key state erased (R123, R125). -/
theorem effectOf_bfBcrypt (flags : Byte) (s : State) :
    effectOf (.bfBcrypt key len salt cost out flags) s =
      { s with
        buf := bufWith s out ((fullDigest (eksLoop
          (streamWords (bytesAt s key len.toNat) 18 (flags.getLsbD 0)) (bytesAt s salt 16)
          cost.toInt.toNat)).take 23)
        bf := bfKeyZero, bfv := false, xl := 0, xr := 0 } := by
  rw [← bcrypt_eq]
  exact clearX_eraseBfKey_writeRegion out _ s

theorem exec_bfBcrypt_ok (hok : BcryptOperandsOk key len salt cost out) (flags : Byte) (s : State) :
    exec (.bfBcrypt key len salt cost out flags) s =
      .next (ended 0 (effectOf (.bfBcrypt key len salt cost out flags) s)) := by
  rw [exec_eq, runCommand_ok _ _ ((firstFault_bfBcrypt_eq_none_iff flags s).mpr hok),
    complete_ok_eq_ended]

theorem exec_bfBcrypt_badOperand (hbad : ¬ BcryptOperandsOk key len salt cost out) (flags : Byte)
    (s : State) : exec (.bfBcrypt key len salt cost out flags) s = .next (ended 3 s) := by
  rcases exec_cases (.bfBcrypt key len salt cost out flags) s with ⟨hpass, _⟩ | ⟨f, hfail, hexec⟩
  · exact absurd ((firstFault_bfBcrypt_eq_none_iff flags s).mp hpass) hbad
  · rw [hexec, firstFault_bfBcrypt_eq_some hfail, raiseFault_eq_ended]
    rfl

end

/-! ## A command that ended with OK -/

/-- Only a command whose checks all passed leaves the code 0. -/
theorem eq_ended_of_last_eq_zero {i : Instr} {s t : State} (hexec : exec i s = .next t)
    (hlast : t.last = 0) : t = ended 0 (effectOf i s) := by
  rcases exec_cases_setBuf i s s.buf with ⟨hok, _⟩ | ⟨f, hcode, hfault, _⟩
  · exact Host.Outcome.next.inj (hexec.symm.trans hok)
  · obtain rfl := Host.Outcome.next.inj (hexec.symm.trans hfault)
    exact absurd hlast hcode

end Sys2Proof.Machine

namespace Sys2Proof.Proofs

open Sys2Proof.Machine

/-- Settles O47: the setup is the loop by `eksSetup_eq_eksLoop`; 16 bytes read cyclically come round after
four words. -/
theorem saltUsedAsAKeyRepeatsItsWords : Obligations.SaltUsedAsAKeyRepeatsItsWords := by
  refine ⟨eksSetup_eq_eksLoop, fun salt hlen i => ?saltWord⟩
  case saltWord =>
    rw [Fin.getElem_fin, getElem_streamWords, getElem_streamWords, streamWord_mod_four hlen]

/-- Settles O48: each text block is enciphered on its own, and the five checks of the command, which all raise
one fault, pass exactly for operands in range. -/
theorem bcryptWritesTheDigest : Obligations.BcryptWritesTheDigest := by
  refine ⟨fun k => ⟨bcryptDigest_eq_take k, length_fullDigest k⟩,
    fun key len salt cost out flags s hflags => ⟨?encoding, ?completes, ?outOfRange⟩⟩
  case encoding => exact decodeFields_ok (o := .bfBcrypt) rfl (flagsReservedZero_of_lt hflags)
  case completes =>
    intro hmin hmax hcheap hdear hkey hsalt hout
    rw [exec_bfBcrypt_ok ⟨⟨hmin, hmax⟩, ⟨hcheap, hdear⟩, hkey, hsalt, hout⟩, effectOf_bfBcrypt]
    rfl
  case outOfRange =>
    refine fun hfails => exec_bfBcrypt_badOperand (fun hok => ?_) flags s
    rcases hfails with hshort | hlong | hcheap | hdear | hkey | hsalt | hout
    · exact hshort.not_ge hok.lenOk.1
    · exact hlong.not_ge hok.lenOk.2
    · exact hcheap.not_ge hok.costOk.1
    · exact hdear.not_ge hok.costOk.2
    · exact hkey hok.keyInside
    · exact hsalt hok.saltInside
    · exact hout hok.outInside

/-- Settles O49: the digest sees of key and flag the 18 key words alone, and the two keys of the last clause
give in every place the word of their first four bytes. -/
theorem signBugExtendsKeyBytes : Obligations.SignBugExtendsKeyBytes := by
  have hshort : streamWords [0xA3, 0x00] 18 true = Vector.replicate 18 0xFFFFA300 :=
    (streamWords_of_length_dvd (by decide) 18 true).trans (congrArg _ (by decide))
  have hlong : streamWords [0xFF, 0xFF, 0xA3, 0x00] 18 true = Vector.replicate 18 0xFFFFA300 :=
    (streamWords_of_length_dvd (by decide) 18 true).trans (congrArg _ (by decide))
  exact ⟨bcrypt_eq, fun _ => rfl,
    fun _ salt cost hlow => bcrypt_congr (streamWords_signext hlow 18) salt cost, hshort, hlong,
    bcrypt_congr (hshort.trans hlong.symm)⟩

/-- Settles O50: the command ended with OK, so its effect took place, which erases the key state; and the flag
it clears is the first check of the block commands. -/
theorem bcryptDestroysTheBlowfishKey : Obligations.BcryptDestroysTheBlowfishKey := by
  intro key len salt cost out flags s t hexec hlast
  have hbf : t.bf = bfKeyZero ∧ t.bfv = false := by
    rw [eq_ended_of_last_eq_zero hexec hlast, effectOf_bfBcrypt]
    exact ⟨rfl, rfl⟩
  obtain ⟨hzero, hkey⟩ := hbf
  rw [hzero]
  exact ⟨bfKeyZero_bp, bfKeyZero_bs, hkey,
    fun _ _ => ⟨exec_without_key rfl hkey, exec_without_key rfl hkey⟩⟩

end Sys2Proof.Proofs
end

section
/-! How an issued descriptor ends: the one list of its possible ends, and its completion code as the code of
the first check that fails, row by row of the table of R148; then the three statements of
`60_exceptions.md`. -/

namespace Sys2Proof.Machine

open Sys2Proof.Spec

/-! ## The ends of an issued descriptor -/

/-- The faults an issued descriptor can end with (R140, R145). -/
def faultsRaised : List Completion := [.rangeViolation, .lengthViolation, .invalidState, .illegalCommand]

theorem firstFault_checksOf_mem {i : Instr} {s : State} {f : Completion}
    (h : firstFault (checksOf s i) = some f) : f ∈ faultsRaised := by
  have hmem := checksOf_faults i s _ (firstFault_mem h)
  exact List.mem_append_left [.illegalCommand] hmem

/-- An issued descriptor ends with OK and the effect of its command, or with a fault that leaves nothing
else. -/
theorem issue_ends (w : CommandWord) (s : State) :
    (∃ i, issue w s = .next (complete .ok (effectOf i s))) ∨
      ∃ f ∈ faultsRaised, issue w s = .next (raiseFault f s) := by
  rcases issue_cases w s with ⟨i, _, hissue⟩ | ⟨_, _, hissue⟩
  · rw [hissue]
    rcases exec_cases i s with ⟨_, hok⟩ | ⟨f, hfirst, hfault⟩
    · exact .inl ⟨i, hok⟩
    · exact .inr ⟨f, firstFault_checksOf_mem hfirst, hfault⟩
  · exact .inr ⟨_, by decide, hissue⟩

/-! ## The completion code of a list of checks -/

/-- The code a command with these checks ends with: that of the first one that fails, or 0 (R147). -/
def codeOfChecks (checks : List (Bool × Completion)) : BitVec 4 :=
  (firstFault checks).elim 0 completionCode

theorem codeOfChecks_nil : codeOfChecks [] = 0 := rfl

theorem codeOfChecks_cons (passes : Bool) (f : Completion) (checks : List (Bool × Completion)) :
    codeOfChecks ((passes, f) :: checks) = if passes then codeOfChecks checks else completionCode f := by
  cases passes <;> rfl

theorem exec_last_eq (i : Instr) (s : State) :
    ∃ t, exec i s = .next t ∧ t.last = codeOfChecks (checksOf s i) := by
  rcases exec_cases i s with ⟨hpass, hexec⟩ | ⟨f, hfirst, hexec⟩
  · exact ⟨_, hexec, by simp [codeOfChecks, hpass, completionCode]⟩
  · exact ⟨_, hexec, by simp [codeOfChecks, hfirst]⟩

/-! ## The table of R148 row by row -/

theorem codeOfChecks_desKey (a : Word) (len : BitVec 16) (s : State) :
    codeOfChecks (checksOf s (.desKey a len)) =
      if len.toNat = 8 then if inside a 8 then 0 else 3 else 4 := by
  simp only [checksOf, codeOfChecks_cons, codeOfChecks_nil, completionCode, desKeyLenOk_iff, regionOk_iff,
    desKeyBytes]

/-- The row of the four commands that need a key, an input block and an output block. -/
theorem codeOfChecks_blockCommand {i : Instr} {s : State} {valid : Bool} {a b : Word}
    (hchecks : checksOf s i = [(valid, .invalidState), (regionOk a 8, .rangeViolation),
      (regionOk b 8, .rangeViolation)]) :
    codeOfChecks (checksOf s i) =
      if valid = true then if inside a 8 then if inside b 8 then 0 else 3 else 3 else 5 := by
  simp only [hchecks, codeOfChecks_cons, codeOfChecks_nil, completionCode, regionOk_iff]

theorem codeOfChecks_desCrypt (a iterations salt : Word) (s : State) :
    codeOfChecks (checksOf s (.desCrypt a iterations salt)) =
      if s.dkv = true then
        if 0 ≤ iterations.toInt then
          if 0 ≤ salt.toInt ∧ salt.toInt ≤ 0xFFFFFF then if inside a 8 then 0 else 3 else 3
        else 3
      else 5 := by
  simp only [checksOf, codeOfChecks_cons, codeOfChecks_nil, completionCode, iterationsOk_iff, saltOk_iff,
    regionOk_iff, blockBytes]

theorem codeOfChecks_bfKey (a : Word) (len : BitVec 16) (s : State) :
    codeOfChecks (checksOf s (.bfKey a len)) =
      if 1 ≤ len.toNat ∧ len.toNat ≤ 72 then if inside a len.toNat then 0 else 3 else 3 := by
  simp only [checksOf, codeOfChecks_cons, codeOfChecks_nil, completionCode, bfKeyLenOk_iff, regionOk_iff,
    uint]

theorem codeOfChecks_bfBcrypt (key : Word) (len : BitVec 16) (salt cost out : Word) (flags : Byte)
    (s : State) :
    codeOfChecks (checksOf s (.bfBcrypt key len salt cost out flags)) =
      if 1 ≤ len.toNat ∧ len.toNat ≤ 72 then
        if 4 ≤ cost.toInt ∧ cost.toInt ≤ 31 then
          if inside key len.toNat then
            if inside salt 16 then if inside out 23 then 0 else 3 else 3
          else 3
        else 3
      else 3 := by
  simp only [checksOf, codeOfChecks_cons, codeOfChecks_nil, completionCode, bfKeyLenOk_iff, costOk_iff,
    regionOk_iff, uint, bcryptSaltBytes, bcryptLength]

theorem flagsReservedZero_iff (flags : Byte) : flagsReservedZero flags = true ↔ flags.toNat / 2 = 0 := by
  rw [flagsReservedZero, beq_iff_eq, ← BitVec.toNat_inj, BitVec.extractLsb'_toNat,
    Nat.shiftRight_eq_div_pow]
  have := flags.isLt
  simp only [BitVec.ofNat_eq_ofNat, BitVec.toNat_ofNat]
  omega

/-- In the row of its opcode a descriptor must have its must-be-zero fields zero, and then the checks of its
command decide. The table of R148 says when a check fails; each of its conditions is read as the negation of
one that passes, which turns the branches of its `if` round. -/
theorem expectedCode_of_opcode {f : Descriptor} {o : Opcode} (hopc : f.opc = o.value) (s : State) :
    expectedCode f s =
      if o.reservedZero f = true then codeOfChecks (checksOf s (o.command f)) else 6 := by
  cases o <;>
    simp only [expectedCode, hopc, Opcode.value, BitVec.reduceEq, if_true, if_false, or_true, true_or,
      or_self, Opcode.reservedZero, Opcode.command, flagsReservedZero_iff, Bool.and_eq_true, beq_iff_eq,
      and_assoc, ne_eq, ← Bool.not_eq_true, ← not_le, ← not_and_or, ite_not]
  case desKey => rw [codeOfChecks_desKey]
  case desEnc | desDec | bfEnc | bfDec => rw [codeOfChecks_blockCommand rfl]
  case desCrypt => rw [codeOfChecks_desCrypt]
  case desClr | bfClr => rfl
  case bfKey => rw [codeOfChecks_bfKey]
  case bfBcrypt => rw [codeOfChecks_bfBcrypt]

/-- An `OPC` value that no opcode has is in no row of the table. -/
theorem expectedCode_of_undefined_opcode {f : Descriptor} (h : opcodeOf f.opc = none) (s : State) :
    expectedCode f s = 6 := by
  have hne : ∀ o ∈ opcodes, f.opc ≠ o.value := fun o _ => (opcodeOf_eq_none h o).symm
  simp only [opcodes, Opcode.value, List.forall_mem_cons] at hne
  simp only [expectedCode, hne, or_self, if_false]

/-- A descriptor in no row of the mask table ends with IllegalCommand. -/
theorem issue_last_of_unmatched {w : CommandWord} (h : ∀ o : Opcode, o.selectedBy w = false) (s : State) :
    ∃ t, issue w s = .next t ∧ t.last = 6 := by
  obtain ⟨e, herror⟩ := decode_of_unmatched h
  exact ⟨_, issue_of_decode_error herror s, rfl⟩

end Sys2Proof.Machine

namespace Sys2Proof.Proofs

open Sys2Proof.Machine

/-- Settles O17: an undefined opcode and a nonzero must-be-zero field are illegal; in a row that fits, the
code is that of the first failing check, and the table lists the same conditions in the same order. -/
theorem faultTableOfEveryDescriptor : Obligations.FaultTableOfEveryDescriptor := by
  intro f s
  cases hopc : opcodeOf f.opc with
  | none =>
    rw [expectedCode_of_undefined_opcode hopc]
    exact issue_last_of_unmatched (unmatched_of_undefined_opcode hopc) s
  | some o =>
    have hvalue : f.opc = o.value := (opcodeOf_eq_some hopc).symm
    rw [expectedCode_of_opcode hvalue]
    cases hzero : o.reservedZero f with
    | false => exact issue_last_of_unmatched (unmatched_of_reserved_nonzero hvalue hzero) s
    | true =>
      have hdecode : decode f.toBits = .ok (o.command f) :=
        (decode_toBits f).trans (decodeFields_ok hvalue hzero)
      rw [issue, hdecode]
      exact exec_last_eq (o.command f) s

/-- Settles O15: OK and the four faults are all the ends there are, and a fault records its code alone. -/
theorem everyCommandReturnsAndRecordsItsCode : Obligations.EveryCommandReturnsAndRecordsItsCode := by
  refine ⟨rfl, fun w s => ?ends⟩
  rcases issue_ends w s with ⟨i, hok⟩ | ⟨f, hf, hfault⟩
  · exact ⟨.ok, List.mem_cons_self, _, hok, rfl, by simp, fun hne => absurd rfl hne⟩
  · exact ⟨f, List.mem_cons_of_mem _ hf, _, hfault, rfl, rfl, fun _ => rfl⟩

/-- Settles O16: a nonzero code is not that of OK, so the command raised a fault. -/
theorem faultLeavesOnlyItsCode : Obligations.FaultLeavesOnlyItsCode := by
  intro w s t hissue hcode
  rcases issue_ends w s with ⟨i, hok⟩ | ⟨f, _, hfault⟩
  · obtain rfl := Host.Outcome.next.inj (hissue.symm.trans hok)
    exact absurd rfl hcode
  · obtain rfl := Host.Outcome.next.inj (hissue.symm.trans hfault)
    rfl

end Sys2Proof.Proofs
end

section
/-! The encoder against the decoder: what the row of a command's opcode says of the command's own fields, and
what the fields of a descriptor are when its row fits; then the statements of `30_encoding.md` on round trips
and worked encodings, and of a step that issues a descriptor. -/

namespace Sys2Proof

/-! ## The fields of a command -/

/-- The fields of a command meet the must-be-zero conditions of its row exactly when it is well formed (R49). -/
theorem Opcode.reservedZero_fields (i : Instr) : i.opcode.reservedZero i.fields = i.wellFormed := by
  cases i <;> rfl

theorem Opcode.command_fields (i : Instr) : i.opcode.command i.fields = i := by
  cases i <;> rfl

/-- A well-formed command comes back from its descriptor (R48, R49). -/
theorem decode_encode {i : Instr} (h : i.wellFormed = true) : decode (encode i) = .ok i := by
  have hzero : i.opcode.reservedZero i.fields = true := (Opcode.reservedZero_fields i).trans h
  rw [encode, decode_toBits, decodeFields_ok (Instr.fields_opc i) hzero, Opcode.command_fields]

/-! ## The fields of a descriptor whose row fits -/

theorem Opcode.wellFormed_command {f : Descriptor} {o : Opcode} (hzero : o.reservedZero f = true) :
    (o.command f).wellFormed = true := by
  cases o with
  | bfBcrypt => exact hzero
  | desKey | desEnc | desDec | desCrypt | desClr | bfKey | bfEnc | bfDec | bfClr => rfl

/-- Each field of a descriptor is an operand of the command it selects, or its row makes it zero (R48, R49). -/
theorem Opcode.fields_command {f : Descriptor} {o : Opcode} (hopc : f.opc = o.value)
    (hzero : o.reservedZero f = true) : (o.command f).fields = f := by
  obtain ⟨opc, flags, len, a, b, c, d⟩ := f
  cases o <;> simp_all [Opcode.reservedZero, Opcode.command, Instr.fields, Opcode.value]

/-- What a decoded descriptor is: the encoding of a well-formed command (R49, R50). -/
theorem encode_of_decode {w : CommandWord} {i : Instr} (h : decode w = .ok i) :
    encode i = w ∧ i.wellFormed = true := by
  rcases decodeFields_cases (Descriptor.ofBits w) with ⟨o, hopc, hzero, hok⟩ | ⟨e, herror⟩
  · obtain rfl : i = o.command (Descriptor.ofBits w) := Except.ok.inj (h.symm.trans hok)
    rw [encode, Opcode.fields_command hopc hzero, Descriptor.toBits_ofBits]
    exact ⟨rfl, Opcode.wellFormed_command hzero⟩
  · cases h.symm.trans herror

/-- Issuing a descriptor runs the command it selects (R50). -/
theorem Machine.issue_of_decode_ok {w : CommandWord} {i : Instr} (h : decode w = .ok i)
    (s : Machine.State) : Machine.issue w s = Machine.exec i s := by
  rw [Machine.issue, h]

end Sys2Proof

namespace Sys2Proof.Proofs

open Sys2Proof.Machine

/-- Settles O8: the command's fields pass the conditions of its own row, and its operands are read where they
were put. -/
theorem decodeEncodeRoundTrip : Obligations.DecodeEncodeRoundTrip := fun _ => decode_encode

/-- Settles O9: a descriptor that decodes fits the row of its opcode, which leaves no field open beside the
operands. -/
theorem encodeDecodeRoundTrip : Obligations.EncodeDecodeRoundTrip := fun _ _ => encode_of_decode

/-- Settles O10: each worked descriptor is the encoding of the command it is listed for. -/
theorem workedEncodingsDecode : Obligations.WorkedEncodingsDecode :=
  ⟨decode_encode (i := .desKey 0 8) rfl, decode_encode (i := .desEnc 8 16) rfl,
    decode_encode (i := .desDec 16 24) rfl, decode_encode (i := .desCrypt 8 25 0x9E6) rfl,
    decode_encode (i := .desClr) rfl, decode_encode (i := .bfKey 0 8) rfl,
    decode_encode (i := .bfEnc 8 8) rfl, decode_encode (i := .bfDec 8 16) rfl,
    decode_encode (i := .bfBcrypt 0 2 16 5 32 1) rfl, decode_encode (i := .bfClr) rfl⟩

/-- Settles O5: the step performs the action at the head of the list, and what decodes is well formed. -/
theorem stepIssuesDecodedCommand : Obligations.StepIssuesDecodedCommand := by
  intro s w rest i hhost hdecode
  obtain ⟨_, hwf⟩ := encode_of_decode hdecode
  exact ⟨hwf, (step_of_host_cons hhost).trans (issue_of_decode_ok hdecode _)⟩

end Sys2Proof.Proofs
end

section
/-! Blocks and bytes on `BUF`: packing and unpacking undo each other, a region written with what it holds is
no change, and a block carried from region to region by two commands that undo each other; then the statements
on `DES.CRYPT` as an iteration and on the block commands of both units. -/

namespace Sys2Proof.Machine

open Sys2Proof.Spec

/-! ## Packing and unpacking -/

/-- Packing puts back in its place every bit that unpacking took (R32). -/
theorem be_bytesBe {w k : Nat} (hwidth : 8 * k = w) (v : BitVec w) : be w (bytesBe k v) = v := by
  refine BitVec.eq_of_getLsbD_eq fun i hi => ?_
  have hplace : i / 8 < (bytesBe k v).length := by rw [length_bytesBe]; omega
  have hbyte : k - 1 - (k - 1 - i / 8) = i / 8 := by omega
  have hlast : k - 1 - i / 8 < k := by omega
  have hbit : i % 8 < 8 := Nat.mod_lt i (by decide)
  rw [getLsbD_be, decide_eq_true hi, Bool.true_and, List.getD_eq_getElem?_getD,
    List.getElem?_reverse hplace]
  simp [hlast, hbyte, hbit, Nat.div_add_mod]

theorem be_bytesBe_word (v : Word) : be 32 (bytesBe 4 v) = v := be_bytesBe (k := 4) rfl v

theorem be_bytesBe_block (v : Block) : be 64 (bytesBe 8 v) = v := be_bytesBe (k := 8) rfl v

/-- Each byte unpacked is the byte packed at its place (R32). -/
theorem bytesBe_be {w k : Nat} (hwidth : 8 * k = w) {bytes : List Byte} (hlen : bytes.length = k) :
    bytesBe k (be w bytes) = bytes := by
  refine List.ext_getElem (by simp [hlen]) fun i _ hi => ?_
  rw [getElem_bytesBe]
  refine BitVec.eq_of_getLsbD_eq fun j hj => ?_
  have hin : 8 * (k - 1 - i) + j < w := by omega
  have hdiv : (8 * (k - 1 - i) + j) / 8 = k - 1 - i := by omega
  have hmod : (8 * (k - 1 - i) + j) % 8 = j := by omega
  have hplace : k - 1 - i < bytes.length := by omega
  have hbyte : bytes.length - 1 - (k - 1 - i) = i := by omega
  rw [BitVec.getLsbD_extractLsb', getLsbD_be, hdiv, hmod, List.getD_eq_getElem?_getD,
    List.getElem?_reverse hplace, hbyte]
  simp [hj, hin, hi]

/-- The two words of eight bytes (R100). -/
def pairOf (bytes : List Byte) : Word × Word := (be 32 (bytes.take 4), be 32 (bytes.drop 4))

theorem pairOf_pairBytes (x : Word × Word) : pairOf (pairBytes x) = x := by
  have hfirst : (bytesBe 4 x.1).length = 4 := length_bytesBe 4 x.1
  rw [pairOf, pairBytes, List.take_left' hfirst, List.drop_left' hfirst, be_bytesBe_word,
    be_bytesBe_word]

theorem pairBytes_pairOf {bytes : List Byte} (hlen : bytes.length = 8) :
    pairBytes (pairOf bytes) = bytes := by
  have hfirst : (bytes.take 4).length = 4 := by simp [hlen]
  have hsecond : (bytes.drop 4).length = 4 := by simp [hlen]
  rw [pairBytes, pairOf, bytesBe_be rfl hfirst, bytesBe_be rfl hsecond, List.take_append_drop]

/-! ## Regions -/

@[simp] theorem length_bytesAt (s : State) (a : Word) (n : Nat) : (bytesAt s a n).length = n :=
  Memory.length_readBytes s.buf (regionStart a) n

/-- A region that a command has written reads back as what was written. -/
theorem bytesAt_of_buf_eq {s t : State} (hwf : s.buf.wf) {b : Word} {bytes : List Byte} {n : Nat}
    (hbuf : t.buf = bufWith s b bytes) (hlen : bytes.length = n) : bytesAt t b n = bytes := by
  subst hlen
  rw [bytesAt, hbuf, bufWith, Memory.readBytes_writeBytes hwf]

/-- Writing a region with the bytes it holds changes nothing. -/
theorem bufWith_bytesAt {s : State} (hwf : s.buf.wf) (a : Word) (n : Nat) :
    bufWith s a (bytesAt s a n) = s.buf := by
  refine Memory.ext_of_wf (Memory.writeBytes_wf hwf _ _) hwf fun addr => ?_
  by_cases hin : regionStart a ≤ addr ∧ addr < regionStart a + n
  · obtain ⟨k, rfl⟩ := Nat.exists_eq_add_of_le hin.1
    have hk : k < (bytesAt s a n).length := by rw [length_bytesAt]; omega
    rw [bufWith, Memory.read_writeBytes_inside hwf hk]
    exact Memory.getElem_readBytes s.buf (regionStart a) n k hk
  · exact Memory.read_writeBytes_outside (by rw [length_bytesAt]; omega)

/-- Eight bytes at `a` are transformed into `b` and from there, by what undoes it, into `c`: wherever the
regions lie, each is read whole before the next is written (R35, R36). -/
theorem bytesAt_carried_back {s t u : State} (hwf : s.buf.wf) {a b c : Word}
    {f g : List Byte → List Byte} (hlen : ∀ bytes, (f bytes).length = 8)
    (ht : t.buf = bufWith s b (f (bytesAt s a 8))) (hu : u.buf = bufWith t c (g (bytesAt t b 8)))
    (hundo : ∀ bytes : List Byte, bytes.length = 8 → g (f bytes) = bytes) :
    bytesAt u c 8 = bytesAt s a 8 := by
  have hbytes := hundo _ (length_bytesAt s a 8)
  have hwft : t.buf.wf := by
    rw [ht]
    exact Memory.writeBytes_wf hwf _ _
  rw [bytesAt_of_buf_eq hwf ht (hlen _), hbytes] at hu
  exact bytesAt_of_buf_eq hwft hu (length_bytesAt s a 8)

/-! ## The computation of a block command on its bytes -/

/-- The rounds with the given subkeys, from eight bytes to eight bytes. -/
def desBytes (keys : List Subkey) (bytes : List Byte) : List Byte := bytesBe 8 (desBlock keys (be 64 bytes))

theorem desBytes_reverse_desBytes (keys : List Subkey) {bytes : List Byte} (hlen : bytes.length = 8) :
    desBytes keys.reverse (desBytes keys bytes) = bytes := by
  rw [desBytes, desBytes, be_bytesBe_block, desBlock_reverse_desBlock, bytesBe_be rfl hlen]

/-- A block command of the DES unit that completes keeps the key and stores its eight bytes. -/
theorem exec_desEnc_stores {s : State} (hkey : s.dkv = true) {a b : Word} (ha : inside a 8)
    (hb : inside b 8) : ∃ t, exec (.desEnc a b) s = .next t ∧ t.dkv = true ∧ t.dk = s.dk ∧
      t.buf = bufWith s b (desBytes s.dk.toList (bytesAt s a 8)) :=
  ⟨_, exec_blockCommand_ok rfl hkey ha hb, hkey, rfl, rfl⟩

theorem exec_desDec_stores {s : State} (hkey : s.dkv = true) {a b : Word} (ha : inside a 8)
    (hb : inside b 8) : ∃ t, exec (.desDec a b) s = .next t ∧
      t.buf = bufWith s b (desBytes s.dk.toList.reverse (bytesAt s a 8)) :=
  ⟨_, exec_blockCommand_ok rfl hkey ha hb, rfl⟩

/-- A function on pairs of words, from eight bytes to eight bytes. -/
def bfBytes (f : Word × Word → Word × Word) (bytes : List Byte) : List Byte := pairBytes (f (pairOf bytes))

theorem bfBytes_bfDecipher_bfEncipher (k : BfKey) {bytes : List Byte} (hlen : bytes.length = 8) :
    bfBytes (bfDecipher k) (bfBytes (bfEncipher k) bytes) = bytes := by
  rw [bfBytes, bfBytes, pairOf_pairBytes, bfDecipher_bfEncipher, pairBytes_pairOf hlen]

/-- A block command of the Blowfish unit that completes keeps the key and stores its eight bytes. -/
theorem exec_bfEnc_stores {s : State} (hkey : s.bfv = true) {a b : Word} (ha : inside a 8)
    (hb : inside b 8) : ∃ t, exec (.bfEnc a b) s = .next t ∧ t.bfv = true ∧ t.bf = s.bf ∧
      t.buf = bufWith s b (bfBytes (bfEncipher s.bf) (bytesAt s a 8)) :=
  ⟨_, exec_blockCommand_ok rfl hkey ha hb, hkey, rfl, rfl⟩

theorem exec_bfDec_stores {s : State} (hkey : s.bfv = true) {a b : Word} (ha : inside a 8)
    (hb : inside b 8) : ∃ t, exec (.bfDec a b) s = .next t ∧
      t.buf = bufWith s b (bfBytes (bfDecipher s.bf) (bytesAt s a 8)) :=
  ⟨_, exec_blockCommand_ok rfl hkey ha hb, rfl⟩

/-! ## Salted passes on a block -/

/-- The halves after some passes are those the next pass would start from. -/
theorem initialHalves_desCryptBlock (dk : Vector Subkey 16) (n : Nat) (sr : Salt) (v : Block) :
    initialHalves (desCryptBlock dk n sr v) = (cryptPass dk sr)^[n] (initialHalves v) := by
  rw [desCryptBlock, initialHalves_outputBlock, Prod.swap_swap]

theorem desCryptBlock_zero (dk : Vector Subkey 16) (sr : Salt) (v : Block) :
    desCryptBlock dk 0 sr v = v := outputBlock_swap_initialHalves v

/-- The output stage of one command and the initial permutation of the next leave the halves between two
passes as they are. -/
theorem desCryptBlock_add (dk : Vector Subkey 16) (m n : Nat) (sr : Salt) (v : Block) :
    desCryptBlock dk (m + n) sr v = desCryptBlock dk n sr (desCryptBlock dk m sr v) := by
  rw [desCryptBlock, Nat.add_comm, Function.iterate_add_apply, ← initialHalves_desCryptBlock,
    ← desCryptBlock]

theorem desCryptBlock_eq_iterate (dk : Vector Subkey 16) (n : Nat) (sr : Salt) (v : Block) :
    desCryptBlock dk n sr v = (desCryptBlock dk 1 sr)^[n] v := by
  induction n with
  | zero => exact desCryptBlock_zero dk sr v
  | succ n ih => rw [desCryptBlock_add, ih, Function.iterate_succ_apply']

/-- One pass without salt: its swap and the final swap cancel (R91). -/
theorem desCryptBlock_one_unsalted (dk : Vector Subkey 16) (v : Block) :
    desCryptBlock dk 1 0 v = desEncipher dk v := by
  rw [desCryptBlock, Function.iterate_one, cryptPass, Prod.swap_swap, desEncipher]

/-! ## `DES.CRYPT` without a pass and with one -/

/-- With no iteration the bytes written are those that were read. -/
theorem effectOf_desCrypt_zero {s : State} (hwf : s.buf.wf) (a salt : Word) :
    effectOf (.desCrypt a 0 salt) s = { s with l := 0, r := 0, sr := 0 } := by
  have hcount : (0 : Word).toInt.toNat = 0 := rfl
  rw [effectOf_desCrypt, hcount, ← desCryptBlock_eq_cryptBlock, desCryptBlock_zero,
    bytesBe_be rfl (length_bytesAt s a 8), bufWith_bytesAt hwf]

theorem effectOf_desCrypt_one_unsalted {s : State} (hsr : s.sr = 0) (a : Word) :
    effectOf (.desCrypt a 1 0) s = effectOf (.desEnc a a) s := by
  have hcount : (1 : Word).toInt.toNat = 1 := rfl
  have hmask : bitrev24 ((0 : Word).extractLsb' 0 24) = 0 := by decide
  rw [effectOf_desCrypt, effectOf_desEnc, hcount, hmask, ← desCryptBlock_eq_cryptBlock,
    desCryptBlock_one_unsalted, desEncipher_eq_desBlock, ← hsr]

/-- Iteration count 1 and salt 0 are in range, so the region alone decides. -/
theorem cryptOperandsOk_one_unsalted {a : Word} : cryptOperandsOk a 1 0 ↔ inside a 8 := by
  have hiter : (0 : Int) ≤ (1 : Word).toInt := by decide
  have hsalt : (0 : Int) ≤ (0 : Word).toInt ∧ (0 : Word).toInt ≤ 0xFFFFFF := by decide
  exact ⟨fun ⟨_, _, hin⟩ => hin, fun hin => ⟨hiter, hsalt, hin⟩⟩

end Sys2Proof.Machine

namespace Sys2Proof.Proofs

open Sys2Proof.Machine Sys2Proof.Spec

/-- Settles O19: bit by bit, from where packing puts each bit of each byte. -/
theorem bytePackingIsInvertible : Obligations.BytePackingIsInvertible :=
  ⟨fun _ => bytesBe_be rfl, be_bytesBe_block, fun _ => bytesBe_be rfl, be_bytesBe_word⟩

/-- Settles O34: what stands between two passes is what stands between two commands, by induction over the
passes; a pass without salt is an encipherment. -/
theorem cryptIsIteratedEncipherment : Obligations.CryptIsIteratedEncipherment := by
  refine fun dk v => ⟨fun n => ?unsalted, fun sr n => desCryptBlock_eq_iterate dk n sr v,
    fun sr m n => desCryptBlock_add dk m n sr v⟩
  case unsalted =>
    rw [desCryptBlock_eq_iterate, funext (desCryptBlock_one_unsalted dk)]

/-- Settles O32: both commands pass their checks, and the block is deciphered with the schedule it was
enciphered with, from the bytes the first command stored. -/
theorem desCommandsRoundTrip : Obligations.DesCommandsRoundTrip := by
  intro s a b c hwf hkey ha hb hc
  obtain ⟨t, henc, hkeyt, hdk, ht⟩ := exec_desEnc_stores hkey ha hb
  obtain ⟨u, hdec, hu⟩ := exec_desDec_stores hkeyt hb hc
  rw [hdk] at hu
  exact ⟨t, u, henc, hdec, bytesAt_carried_back (f := desBytes s.dk.toList) hwf
    (fun _ => length_bytesBe 8 _) ht hu fun _ => desBytes_reverse_desBytes s.dk.toList⟩

/-- Settles O41: as for the DES unit, with the key state the block was enciphered under. -/
theorem bfCommandsRoundTrip : Obligations.BfCommandsRoundTrip := by
  intro s a b c hwf hkey ha hb hc
  obtain ⟨t, henc, hkeyt, hbf, ht⟩ := exec_bfEnc_stores hkey ha hb
  obtain ⟨u, hdec, hu⟩ := exec_bfDec_stores hkeyt hb hc
  rw [hbf] at hu
  exact ⟨t, u, henc, hdec, bytesAt_carried_back (f := bfBytes (bfEncipher s.bf)) hwf
    (fun _ => length_pairBytes _) ht hu fun _ => bfBytes_bfDecipher_bfEncipher s.bf⟩

/-- Settles O35: the operands are in range, and what no pass has changed is written back where it was read. -/
theorem cryptZeroIterationsLeavesBuf : Obligations.CryptZeroIterationsLeavesBuf := by
  intro s a salt hwf hkey hin hsalt0 hsalt
  rw [exec_desCrypt_ok hkey ⟨le_refl 0, ⟨hsalt0, hsalt⟩, hin⟩, effectOf_desCrypt_zero hwf]

/-- Settles O36: both commands ask for the key and then for the same region, and leave the same state. -/
theorem cryptOnceUnsaltedIsEncipher : Obligations.CryptOnceUnsaltedIsEncipher := by
  intro s a hsr
  cases hkey : s.dkv with
  | false => rw [exec_without_key rfl hkey, exec_without_key rfl hkey]
  | true =>
    by_cases hin : inside a 8
    · rw [exec_desCrypt_ok hkey (cryptOperandsOk_one_unsalted.mpr hin),
        exec_blockCommand_ok rfl hkey hin hin, effectOf_desCrypt_one_unsalted hsr]
    · rw [exec_desCrypt_badOperand hkey (mt cryptOperandsOk_one_unsalted.mp hin),
        exec_blockCommand_badRegion rfl hkey fun hboth => hin hboth.1]

end Sys2Proof.Proofs
end

section
/-! What stays between two commands: the registers each effect leaves as they were or clears, that neither
unit reads or writes the key state of the other, and how commands end right after reset or after a command
that faulted; then the statements of `10_state.md` section 9 and of `70_reset_and_hazards.md` on commands that
follow one another. -/

namespace Sys2Proof.Machine

open Sys2Proof.Spec

/-! ## The operations an effect consists of -/

/-- Which operations on the state the effect of a command is, whatever the key or the bytes it computes. -/
inductive EffectShape (s : State) : Instr → State → Prop
  | desKey {a : Word} {len : BitVec 16} (keys : Vector Subkey 16) :
    EffectShape s (.desKey a len) (clearCD (loadDesKey keys s))
  | desEnc {a b : Word} (bytes : List Byte) :
    EffectShape s (.desEnc a b) (clearLR (writeRegion b bytes s))
  | desDec {a b : Word} (bytes : List Byte) :
    EffectShape s (.desDec a b) (clearLR (writeRegion b bytes s))
  | desCrypt {a iterations salt : Word} (bytes : List Byte) :
    EffectShape s (.desCrypt a iterations salt) (clearSR (clearLR (writeRegion a bytes s)))
  | desClr : EffectShape s .desClr (eraseDesKey s)
  | bfKey {a : Word} {len : BitVec 16} (k : BfKey) :
    EffectShape s (.bfKey a len) (clearX (loadBfKey k s))
  | bfEnc {a b : Word} (bytes : List Byte) :
    EffectShape s (.bfEnc a b) (clearX (writeRegion b bytes s))
  | bfDec {a b : Word} (bytes : List Byte) :
    EffectShape s (.bfDec a b) (clearX (writeRegion b bytes s))
  | bfBcrypt {key : Word} {len : BitVec 16} {salt cost out : Word} {flags : Byte} (bytes : List Byte) :
    EffectShape s (.bfBcrypt key len salt cost out flags)
      (clearX (eraseBfKey (writeRegion out bytes s)))
  | bfClr : EffectShape s .bfClr (eraseBfKey s)

theorem effectOf_shape (i : Instr) (s : State) : EffectShape s i (effectOf i s) := by
  cases i <;> constructor

/-- A command that answers a next state ended: with its effect, or with the state as it was. -/
theorem exec_ends {i : Instr} {s t : State} (h : exec i s = .next t) :
    (firstFault (checksOf s i) = none ∧ t = complete .ok (effectOf i s)) ∨
      ∃ f ∈ faultsRaised, t = raiseFault f s := by
  rcases exec_cases i s with ⟨hpass, hok⟩ | ⟨f, hfirst, hfault⟩
  · exact .inl ⟨hpass, Host.Outcome.next.inj (h.symm.trans hok)⟩
  · exact .inr ⟨f, firstFault_checksOf_mem hfirst, Host.Outcome.next.inj (h.symm.trans hfault)⟩

/-- What neither the completion code nor the effect of a command changes, the command does not change. -/
theorem exec_keeps {α : Type} {i : Instr} {s t : State} (f : State → α) (h : exec i s = .next t)
    (hcomplete : ∀ how u, f (complete how u) = f u) (heffect : f (effectOf i s) = f s) : f t = f s := by
  rcases exec_ends h with ⟨_, rfl⟩ | ⟨e, _, rfl⟩
  · exact (hcomplete .ok _).trans heffect
  · exact hcomplete e s

/-! ## What each effect leaves alone -/

section
variable {i : Instr} {s t : State}

theorem EffectShape.desKeyState (h : EffectShape s i t) (hi : i.opcode ∉ [Opcode.desKey, .desClr]) :
    (t.dk, t.dkv) = (s.dk, s.dkv) := by
  cases h with
  | desKey | desClr => simp [Instr.opcode] at hi
  | desEnc | desDec | desCrypt | bfKey | bfEnc | bfDec | bfBcrypt | bfClr => rfl

theorem EffectShape.bfKeyState (h : EffectShape s i t)
    (hi : i.opcode ∉ [Opcode.bfKey, .bfBcrypt, .bfClr]) : (t.bf, t.bfv) = (s.bf, s.bfv) := by
  cases h with
  | bfKey | bfBcrypt | bfClr => simp [Instr.opcode] at hi
  | desKey | desEnc | desDec | desCrypt | desClr | bfEnc | bfDec => rfl

theorem EffectShape.buf (h : EffectShape s i t)
    (hi : i.opcode ∈ [Opcode.desKey, .desClr, .bfKey, .bfClr]) : t.buf = s.buf := by
  cases h with
  | desKey | desClr | bfKey | bfClr => rfl
  | desEnc | desDec | desCrypt | bfEnc | bfDec | bfBcrypt => simp [Instr.opcode] at hi

/-- The registers of the DES unit (R10 to R12). -/
def desRegisters (s : State) : Vector Subkey 16 × Bool × Word × Word × KeyHalf × KeyHalf × Salt :=
  (s.dk, s.dkv, s.l, s.r, s.c, s.d, s.sr)

/-- The registers of the Blowfish unit (R13). -/
def bfRegisters (s : State) : BfKey × Bool × Word × Word := (s.bf, s.bfv, s.xl, s.xr)

theorem EffectShape.desRegisters (h : EffectShape s i t) (hi : ofBlowfishUnit i = true) :
    Machine.desRegisters t = Machine.desRegisters s := by
  cases h with
  | desKey | desEnc | desDec | desCrypt | desClr => simp [ofBlowfishUnit, Instr.opcode, Opcode.value] at hi
  | bfKey | bfEnc | bfDec | bfBcrypt | bfClr => rfl

theorem EffectShape.bfRegisters (h : EffectShape s i t) (hi : ofBlowfishUnit i = false) :
    Machine.bfRegisters t = Machine.bfRegisters s := by
  cases h with
  | desKey | desEnc | desDec | desCrypt | desClr => rfl
  | bfKey | bfEnc | bfDec | bfBcrypt | bfClr => simp [ofBlowfishUnit, Instr.opcode, Opcode.value] at hi

end

/-! ## Working registers -/

/-- Each working register of `t` is as in `s` or cleared (R12, R13). -/
structure KeptOrCleared (s t : State) : Prop where
  l : t.l = s.l ∨ t.l = 0
  r : t.r = s.r ∨ t.r = 0
  c : t.c = s.c ∨ t.c = 0
  d : t.d = s.d ∨ t.d = 0
  sr : t.sr = s.sr ∨ t.sr = 0
  xl : t.xl = s.xl ∨ t.xl = 0
  xr : t.xr = s.xr ∨ t.xr = 0

theorem EffectShape.keptOrCleared {i : Instr} {s t : State} (h : EffectShape s i t) :
    KeptOrCleared s t := by
  cases h <;> constructor <;> simp

theorem KeptOrCleared.workingClear {s t : State} (h : KeptOrCleared s t) (hs : s.workingClear) :
    t.workingClear := by
  obtain ⟨hl, hr, hc, hd, hsr, hxl, hxr⟩ := hs
  exact ⟨h.l.elim (·.trans hl) id, h.r.elim (·.trans hr) id, h.c.elim (·.trans hc) id,
    h.d.elim (·.trans hd) id, h.sr.elim (·.trans hsr) id, h.xl.elim (·.trans hxl) id,
    h.xr.elim (·.trans hxr) id⟩

/-- A completion code is recorded without touching a working register. -/
theorem keptOrCleared_complete {s t : State} (h : KeptOrCleared s t) (how : Completion) :
    KeptOrCleared s (complete how t) := ⟨h.l, h.r, h.c, h.d, h.sr, h.xl, h.xr⟩

theorem keptOrCleared_raiseFault (f : Completion) (s : State) : KeptOrCleared s (raiseFault f s) :=
  ⟨.inl rfl, .inl rfl, .inl rfl, .inl rfl, .inl rfl, .inl rfl, .inl rfl⟩

theorem exec_keptOrCleared {i : Instr} {s t : State} (h : exec i s = .next t) : KeptOrCleared s t := by
  rcases exec_ends h with ⟨_, rfl⟩ | ⟨f, _, rfl⟩
  · exact keptOrCleared_complete (effectOf_shape i s).keptOrCleared .ok
  · exact keptOrCleared_raiseFault f s

/-- An illegal descriptor keeps the working registers too (R146). -/
theorem issue_keptOrCleared {w : CommandWord} {s t : State} (h : issue w s = .next t) :
    KeptOrCleared s t := by
  rcases issue_cases w s with ⟨i, _, hexec⟩ | ⟨_, _, hillegal⟩
  · exact exec_keptOrCleared (hexec.symm.trans h)
  · obtain rfl := Host.Outcome.next.inj (hillegal.symm.trans h)
    exact keptOrCleared_raiseFault _ s

/-! ## The key state of the other unit -/

theorem checksOf_withBf {i : Instr} (hi : ofBlowfishUnit i = false) (k : BfKey) (v : Bool) (s : State) :
    checksOf (withBf k v s) i = checksOf s i := by
  cases i with
  | desKey | desEnc | desDec | desCrypt | desClr => rfl
  | bfKey | bfEnc | bfDec | bfBcrypt | bfClr => simp [ofBlowfishUnit, Instr.opcode, Opcode.value] at hi

theorem effectOf_withBf {i : Instr} (hi : ofBlowfishUnit i = false) (k : BfKey) (v : Bool) (s : State) :
    effectOf i (withBf k v s) = withBf k v (effectOf i s) := by
  cases i with
  | desKey | desEnc | desDec | desCrypt | desClr => rfl
  | bfKey | bfEnc | bfDec | bfBcrypt | bfClr => simp [ofBlowfishUnit, Instr.opcode, Opcode.value] at hi

theorem checksOf_withDes {i : Instr} (hi : ofBlowfishUnit i = true) (dk : Vector Subkey 16) (v : Bool)
    (s : State) : checksOf (withDes dk v s) i = checksOf s i := by
  cases i with
  | desKey | desEnc | desDec | desCrypt | desClr => simp [ofBlowfishUnit, Instr.opcode, Opcode.value] at hi
  | bfKey | bfEnc | bfDec | bfBcrypt | bfClr => rfl

theorem bytesAt_withDes (dk : Vector Subkey 16) (v : Bool) (s : State) (off : Word) (n : Nat) :
    bytesAt (withDes dk v s) off n = bytesAt s off n := rfl

theorem bufWith_withDes (dk : Vector Subkey 16) (v : Bool) (s : State) (off : Word)
    (bytes : List Byte) : bufWith (withDes dk v s) off bytes = bufWith s off bytes := rfl

theorem effectOf_withDes {i : Instr} (hi : ofBlowfishUnit i = true) (dk : Vector Subkey 16) (v : Bool)
    (s : State) : effectOf i (withDes dk v s) = withDes dk v (effectOf i s) := by
  cases i with
  | desKey | desEnc | desDec | desCrypt | desClr => simp [ofBlowfishUnit, Instr.opcode, Opcode.value] at hi
  | bfKey =>
    rw [effectOf_bfKey, effectOf_bfKey, bytesAt_withDes]
    simp only [withDes]
  | bfBcrypt =>
    rw [effectOf_bfBcrypt, effectOf_bfBcrypt, bytesAt_withDes, bytesAt_withDes, bufWith_withDes]
    simp only [withDes]
  | bfEnc | bfDec | bfClr => rfl

/-- A change of the state that no check sees and that passes through effect and completion passes through the
command. -/
theorem exec_commutes {i : Instr} {s : State} {g : State → State}
    (hchecks : checksOf (g s) i = checksOf s i) (heffect : effectOf i (g s) = g (effectOf i s))
    (hcomplete : ∀ how u, complete how (g u) = g (complete how u)) :
    ∃ t, exec i s = .next t ∧ exec i (g s) = .next (g t) := by
  rw [exec_eq i (g s), hchecks]
  rcases exec_cases i s with ⟨hpass, hok⟩ | ⟨f, hfirst, hfault⟩
  · exact ⟨_, hok, by rw [runCommand_ok _ _ hpass, heffect, hcomplete]⟩
  · exact ⟨_, hfault, by rw [runCommand_fault _ _ hfirst, raiseFault, hcomplete, raiseFault]⟩

/-- When neither check nor effect sees a part of the state, the command ends the same whatever is put there;
putting there what it already holds shows that the command leaves it. -/
theorem exec_ignores {α : Type} {put : α → State → State} {i : Instr} {s : State} {held : α}
    (hheld : put held s = s) (hchecks : ∀ x, checksOf (put x s) i = checksOf s i)
    (heffect : ∀ x, effectOf i (put x s) = put x (effectOf i s))
    (hcomplete : ∀ x how u, complete how (put x u) = put x (complete how u)) (x : α) :
    ∃ t, exec i s = .next t ∧ t = put held t ∧ exec i (put x s) = .next (put x t) := by
  obtain ⟨t, hexec, hsame⟩ := exec_commutes (hchecks held) (heffect held) (hcomplete held)
  obtain ⟨t', hexec', hother⟩ := exec_commutes (hchecks x) (heffect x) (hcomplete x)
  obtain rfl := Host.Outcome.next.inj (hexec'.symm.trans hexec)
  rw [hheld] at hsame
  exact ⟨t', hexec, Host.Outcome.next.inj (hexec.symm.trans hsame), hother⟩

/-! ## Commands that end one way -/

/-- A command that ended with a code other than 0 left its state with that code alone (R146). -/
theorem eq_ended_of_last_ne_zero {i : Instr} {s t : State} (h : exec i s = .next t) (hlast : t.last ≠ 0) :
    t = ended t.last s := by
  rcases exec_ends h with ⟨_, rfl⟩ | ⟨f, _, rfl⟩
  · exact absurd rfl hlast
  · rfl

end Sys2Proof.Machine

namespace Sys2Proof.Proofs

open Sys2Proof.Machine Sys2Proof.Spec

/-- Settles O54: neither a check nor the effect of a command of one unit sees the key state of the other. -/
theorem unitsAreIndependent : Obligations.UnitsAreIndependent := by
  refine ⟨fun i s k v hi => ?des, fun i s dk v hi => ?bf⟩
  case des =>
    exact exec_ignores (put := fun key : BfKey × Bool => withBf key.1 key.2) (held := (s.bf, s.bfv)) rfl
      (fun _ => checksOf_withBf hi _ _ s) (fun _ => effectOf_withBf hi _ _ s) (fun _ _ _ => rfl) (k, v)
  case bf =>
    exact exec_ignores (put := fun key : Vector Subkey 16 × Bool => withDes key.1 key.2)
      (held := (s.dk, s.dkv)) rfl (fun _ => checksOf_withDes hi _ _ s)
      (fun _ => effectOf_withDes hi _ _ s) (fun _ _ _ => rfl) (dk, v)

/-- Settles O51: `BF.BCRYPT` leaves no key for the third command; a unit's registers are among those that
neither the completion code nor an effect of the other unit touches. -/
theorem bcryptEndsALoadedKey : Obligations.BcryptEndsALoadedKey := by
  refine ⟨?thirdCommand, fun i s t hexec => ⟨fun hi => ?des, fun hi => ?bf⟩⟩
  case thirdCommand =>
    intro a key salt cost out x y len len' flags s t u hkey hkeyOk hbcrypt hbcryptOk
    obtain ⟨_, _, _, hblocks⟩ :=
      bcryptDestroysTheBlowfishKey key len' salt cost out flags t u hbcrypt hbcryptOk
    refine ⟨?loaded, (hblocks x y).1⟩
    rw [eq_ended_of_last_eq_zero hkey hkeyOk, effectOf_bfKey]
    rfl
  case des =>
    have hkept := exec_keeps desRegisters hexec (fun _ _ => rfl) ((effectOf_shape i s).desRegisters hi)
    simpa [desRegisters] using hkept
  case bf =>
    have hkept := exec_keeps bfRegisters hexec (fun _ _ => rfl) ((effectOf_shape i s).bfRegisters hi)
    simpa [bfRegisters] using hkept

/-- Settles O52: both commands complete and write what they compute from the bytes of the key alone. -/
theorem keyCommandsReplaceTheKey : Obligations.KeyCommandsReplaceTheKey := by
  intro a len s s' hbuf
  have hbytes : ∀ n, bytesAt s a n = bytesAt s' a n := fun n => by rw [bytesAt, hbuf, bytesAt]
  refine ⟨fun hlen hin => ?des, fun hmin hmax hin => ?bf⟩
  case des =>
    exact ⟨_, _, exec_desKey_ok hlen hin s, exec_desKey_ok hlen hin s', rfl, rfl,
      congrArg (fun bytes => desSchedule (be 64 bytes)) (hbytes 8)⟩
  case bf =>
    refine ⟨_, _, exec_bfKey_ok ⟨hmin, hmax⟩ hin s, exec_bfKey_ok ⟨hmin, hmax⟩ hin s', ?_⟩
    rw [effectOf_bfKey, effectOf_bfKey, hbytes]
    exact ⟨rfl, rfl, rfl⟩

/-- Settles O53: a fault leaves the state with its code alone, and a code in `LAST` is nothing to the commands
that follow. -/
theorem failedKeyCommandKeepsTheOldKey : Obligations.FailedKeyCommandKeepsTheOldKey := by
  refine ⟨fun a len s t hlast => ⟨fun hexec => ?des, fun hexec => ?bf⟩, fun s hkey =>
    ⟨exec_desKey_badLength (by decide) s, fun a b ha hb => ?following,
      _, exec_desClr _, rfl, rfl⟩⟩
  case des | bf =>
    rw [eq_ended_of_last_ne_zero hexec hlast]
    exact ⟨rfl, rfl⟩
  case following =>
    exact ⟨_, _, exec_blockCommand_ok rfl hkey ha hb, exec_blockCommand_ok rfl hkey ha hb, rfl, rfl, rfl⟩

/-- Settles O56: each register by the operations the effects consist of; the host's list and the record of
returned codes by what every completion does. -/
theorem registersWrittenByEachCommand : Obligations.RegistersWrittenByEachCommand := by
  intro i s t hexec
  have hshape := effectOf_shape i s
  have hworking := exec_keptOrCleared hexec
  refine ⟨fun hi => ?des, fun hi => ?bf, fun hi => ?buf, hworking.l, hworking.r, hworking.c, hworking.d,
    hworking.sr, hworking.xl, hworking.xr, ?host, ?returned⟩
  case des =>
    have hkept := exec_keeps (fun u => (u.dk, u.dkv)) hexec (fun _ _ => rfl) (hshape.desKeyState hi)
    exact Prod.mk.inj hkept
  case bf =>
    have hkept := exec_keeps (fun u => (u.bf, u.bfv)) hexec (fun _ _ => rfl) (hshape.bfKeyState hi)
    exact Prod.mk.inj hkept
  case buf =>
    have hkept := exec_keeps State.buf hexec (fun _ _ => rfl) (hshape.buf hi)
    exact ⟨hkept, fun a => congrArg (Memory.read · a) hkept⟩
  case host => exact exec_keeps State.host hexec (fun _ _ => rfl) (effectOf_host i s)
  case returned =>
    rcases exec_ends hexec with ⟨_, rfl⟩ | ⟨f, _, rfl⟩ <;> simp

/-- Settles O57: every clause is one command from a state whose valid flags are 0 and whose keys are erased. -/
theorem commandsAfterReset : Obligations.CommandsAfterReset := by
  intro h ρ s hs
  have hhost : s.host = h := by rw [hs]
  have hdes : s.dkv = false := by rw [hs]; rfl
  have hbf : s.bfv = false := by rw [hs]; rfl
  refine ⟨fun w rest hissue => step_of_host_cons (hhost.trans hissue), fun a b c d => ?blocks,
    fun a hin => ⟨_, exec_desKey_ok rfl hin s, rfl, rfl⟩, fun a len hmin hmax hin => ?bfKey,
    fun key len salt cost out flags hmin hmax hcheap hdear hkey hsalt hout => ?bcrypt,
    ?desClr, ?bfClr, ?status⟩
  case blocks =>
    exact ⟨exec_without_key rfl hdes, exec_without_key rfl hdes, exec_without_key rfl hdes,
      exec_without_key rfl hbf, exec_without_key rfl hbf⟩
  case bfKey =>
    refine ⟨_, exec_bfKey_ok ⟨hmin, hmax⟩ hin s, rfl, ?_⟩
    rw [effectOf_bfKey]
    rfl
  case bcrypt =>
    exact ⟨_, exec_bfBcrypt_ok ⟨⟨hmin, hmax⟩, ⟨hcheap, hdear⟩, hkey, hsalt, hout⟩ flags s, rfl⟩
  case desClr => rw [hs, exec_desClr]; rfl
  case bfClr => rw [hs, exec_bfClr]; rfl
  case status => rw [hs]; exact statusWord_reset

/-- Settles O58: no end of a descriptor leaves in a working register anything but what it held or 0. -/
theorem noWorkingMaterialRemains : Obligations.NoWorkingMaterialRemains := by
  intro w s hs
  obtain ⟨t, hissue, _⟩ := issue_returns_last w s
  exact ⟨t, hissue, (issue_keptOrCleared hissue).workingClear hs⟩

end Sys2Proof.Proofs
end

section
/-! The invariant and the host: that every end of a step keeps what `Safety.lean` states, that a host action
which reaches the core is performed, and what the actions on `BUF` and resets do; then the statements on the
invariant, on runs and on the host port. -/

namespace Sys2Proof.Machine

open Sys2Proof.Spec

/-! ## Key state and buffer after an effect -/

/-- A flag that an effect clears goes with the key it erases, and one that it leaves at 0 with a key it
leaves. -/
theorem EffectShape.keylessZero {i : Instr} {s t : State} (h : EffectShape s i t) (hs : s.keylessZero) :
    t.keylessZero := by
  obtain ⟨hdes, hbf⟩ := hs
  cases h with
  | desKey => exact ⟨nofun, hbf⟩
  | desClr => exact ⟨fun _ => rfl, hbf⟩
  | bfKey => exact ⟨hdes, nofun⟩
  | bfBcrypt | bfClr => exact ⟨hdes, fun _ => rfl⟩
  | desEnc | desDec | desCrypt | bfEnc | bfDec => exact ⟨hdes, hbf⟩

/-- A command whose checks pass writes inside `BUF` only (R33). -/
theorem regionsWritten_ok {i : Instr} {s : State} (hpass : firstFault (checksOf s i) = none) :
    ∀ r ∈ regionsWritten i, regionOk r.1 r.2 = true := by
  have hchecks := (firstFault_eq_none_iff _).mp hpass
  cases i with
  | desKey | desClr | bfKey | bfClr => exact nofun
  | desEnc a b | desDec a b | bfEnc a b | bfDec a b =>
    simpa [regionsWritten] using hchecks (regionOk b 8, .rangeViolation) (by simp [checksOf, blockBytes])
  | desCrypt a iterations salt =>
    simpa [regionsWritten] using hchecks (regionOk a 8, .rangeViolation) (by simp [checksOf, blockBytes])
  | bfBcrypt key len salt cost out flags =>
    simpa [regionsWritten] using
      hchecks (regionOk out 23, .rangeViolation) (by simp [checksOf, bcryptLength])

/-- `bufLegal` is about `BUF` alone. -/
theorem bufLegal_of_buf_eq {s t : State} (h : s.bufLegal) (hbuf : t.buf = s.buf) : t.bufLegal := by
  rwa [State.bufLegal, hbuf]

theorem effectOf_bufLegal {i : Instr} {s : State} (hpass : firstFault (checksOf s i) = none)
    (hs : s.bufLegal) : (effectOf i s).bufLegal := by
  rcases effectOf_buf_cases i with ⟨_, hbuf⟩ | ⟨off, n, hregions, heffect⟩
  · exact bufLegal_of_buf_eq hs (hbuf s)
  · obtain ⟨hlen, hbuf⟩ := heffect s
    have hok : regionOk off (bytesStored i s).length = true := by
      rw [hlen]
      exact regionsWritten_ok hpass (off, n) (by simp [hregions])
    exact bufLegal_of_buf_eq (writeRegion_bufLegal hs hok) hbuf

/-! ## The invariant -/

theorem inv_reset : State.reset.Inv where
  workingClear := ⟨rfl, rfl, rfl, rfl, rfl, rfl, rfl⟩
  keylessZero := ⟨fun _ => rfl, fun _ => rfl⟩
  lastLegal := by decide
  bufLegal := ⟨⟨.nil, nofun⟩, nofun⟩

/-- The invariant speaks of the core only: the host's list and record do not matter. -/
theorem State.Inv.setHost {s : State} (h : s.Inv) (host : List HostAction)
    (returned : List HostReturn) : State.Inv { s with host := host, returned := returned } :=
  ⟨h.workingClear, h.keylessZero, h.lastLegal, h.bufLegal⟩

theorem State.Inv.raiseFault {s : State} (h : s.Inv) {f : Completion} (hf : f ∈ faultsRaised) :
    (Machine.raiseFault f s).Inv :=
  ⟨h.workingClear, h.keylessZero,
    List.mem_map_of_mem (List.mem_cons_of_mem Completion.ok hf), h.bufLegal⟩

/-- A command that completes clears working registers, erases keys with their flags and stores inside
`BUF`. -/
theorem State.Inv.complete_effectOf {i : Instr} {s : State} (h : s.Inv)
    (hpass : firstFault (checksOf s i) = none) : (complete .ok (effectOf i s)).Inv where
  workingClear := (effectOf_shape i s).keptOrCleared.workingClear h.workingClear
  keylessZero := (effectOf_shape i s).keylessZero h.keylessZero
  lastLegal := List.mem_cons_self
  bufLegal := effectOf_bufLegal hpass h.bufLegal

theorem issue_inv {w : CommandWord} {s t : State} (h : issue w s = .next t) (hs : s.Inv) : t.Inv := by
  rcases issue_cases w s with ⟨i, _, hexec⟩ | ⟨_, _, hillegal⟩
  · rcases exec_ends (hexec.symm.trans h) with ⟨hpass, rfl⟩ | ⟨f, hf, rfl⟩
    · exact hs.complete_effectOf hpass
    · exact hs.raiseFault hf
  · obtain rfl := Host.Outcome.next.inj (hillegal.symm.trans h)
    exact hs.raiseFault (by decide)

/-- A host write inside `BUF` keeps the canonical form and the bounds (R42). -/
theorem bufLegal_write {s : State} (h : s.bufLegal) {addr : Nat} (haddr : hostAddrOk addr = true)
    (byte : Byte) : State.bufLegal { s with buf := s.buf.write addr byte } := by
  refine ⟨Memory.write_wf h.1 addr byte, fun cell hcell => ?_⟩
  rcases Memory.mem_write hcell with hold | ⟨rfl, _⟩
  · exact h.2 cell hold
  · exact (hostAddrOk_iff addr).mp haddr

/-- Every host action that is performed keeps the invariant (R171). -/
theorem perform_inv {a : HostAction} {s t : State} (h : perform a s = .next t) (hs : s.Inv) : t.Inv := by
  rcases perform_cases h with ⟨addr, byte, _, haddr, rfl⟩ | ⟨addr, _, _, rfl⟩ | ⟨w, _, hissue⟩ |
    ⟨_, rfl⟩ | ⟨_, rfl⟩
  · exact ⟨hs.workingClear, hs.keylessZero, hs.lastLegal, bufLegal_write hs.bufLegal haddr byte⟩
  · exact hs.setHost _ _
  · exact issue_inv hissue hs
  · exact hs.setHost _ _
  · exact inv_reset.setHost _ _

/-! ## Runs -/

/-- A host action that reaches the core is performed, and the rest of the host's list is left (R172). -/
theorem perform_of_reachesCore {a : HostAction} (h : a.reachesCore = true) (s : State) :
    ∃ t, perform a s = .next t ∧ t.host = s.host := by
  cases a with
  | write addr byte => exact ⟨_, if_pos h, rfl⟩
  | read addr => exact ⟨_, if_pos h, rfl⟩
  | issue w =>
    rcases issue_ends w s with ⟨i, hok⟩ | ⟨f, _, hfault⟩
    · exact ⟨_, hok, by simp⟩
    · exact ⟨_, hfault, rfl⟩
  | readStatus => exact ⟨_, rfl, rfl⟩
  | reset => exact ⟨_, rfl, rfl⟩
  | resetDuring w => exact ⟨_, rfl, rfl⟩

theorem run_succ {M : Host.Core} {s t : M.State} (h : M.step s = .next t) (k : Nat) :
    M.run (k + 1) s = M.run k t := by
  rw [Host.Core.run, h]

/-- Each step takes the head off a legal list and leaves a legal list (R168, R172). -/
theorem run_of_legal (actions : List HostAction) (hlegal : ∀ a ∈ actions, a.reachesCore = true) :
    ∀ s : State, s.host = actions →
      ∃ t : State, Host.Core.run core actions.length s = .next t ∧ t.host = [] := by
  induction actions with
  | nil => exact fun s hhost => ⟨s, rfl, hhost⟩
  | cons a rest ih =>
    intro s hhost
    obtain ⟨ha, hrest⟩ := List.forall_mem_cons.mp hlegal
    obtain ⟨t, hperform, ht⟩ := perform_of_reachesCore ha { s with host := rest }
    obtain ⟨u, hrun, hu⟩ := ih hrest t ht
    exact ⟨u, (run_succ (M := core) ((step_of_host_cons hhost).trans hperform) _).trans hrun, hu⟩

/-! ## Host accesses and reset -/

theorem hostWrite_inside {addr : Nat} (h : addr < Config.bufSize) (byte : Byte) (s : State) :
    hostWrite addr byte s = .next { s with buf := s.buf.write addr byte } :=
  if_pos ((hostAddrOk_iff addr).mpr h)

theorem hostRead_inside {addr : Nat} (h : addr < Config.bufSize) (s : State) :
    hostRead addr s = .next { s with returned := .byte (s.buf.read addr) :: s.returned } :=
  if_pos ((hostAddrOk_iff addr).mpr h)

theorem hostWrite_outside {addr : Nat} (h : Config.bufSize ≤ addr) (byte : Byte) (s : State) :
    hostWrite addr byte s = .fault (.hostAddressOutsideBuf addr) :=
  if_neg (mt (hostAddrOk_iff addr).mp h.not_gt)

theorem hostRead_outside {addr : Nat} (h : Config.bufSize ≤ addr) (s : State) :
    hostRead addr s = .fault (.hostAddressOutsideBuf addr) :=
  if_neg (mt (hostAddrOk_iff addr).mp h.not_gt)

/-- Both kinds of reset leave the core in its reset state (R160). -/
theorem perform_reset {a : HostAction} (h : a = .reset ∨ ∃ w, a = .resetDuring w) (s : State) :
    perform a s = .next (resetCore s) := by
  rcases h with rfl | ⟨w, rfl⟩ <;> rfl

end Sys2Proof.Machine

namespace Sys2Proof.Proofs

open Sys2Proof.Machine

/-- Settles O2: everything is 0 after reset, and no byte of `BUF` is listed. -/
theorem resetMeetsInvariant : Obligations.ResetMeetsInvariant := inv_reset

/-- Settles O3: an idle step changes nothing; any other performs one host action, and each kind of action
keeps the invariant. -/
theorem stepKeepsInvariant : Obligations.StepKeepsInvariant := by
  intro s t hs hstep
  rcases step_cases hstep with ⟨_, rfl⟩ | ⟨a, rest, _, hperform⟩
  · exact hs
  · exact perform_inv hperform (hs.setHost rest s.returned)

/-- Settles O4: by induction over the host's list, each of whose actions is performed in one step. -/
theorem legalHostListRunsToItsEnd : Obligations.LegalHostListRunsToItsEnd :=
  fun s hlegal => run_of_legal s.host hlegal s rfl

/-- Settles O12: the address is in bounds, so the access is made; the write is seen at its address alone. -/
theorem hostAccessInsideBuf : Obligations.HostAccessInsideBuf := by
  refine ⟨fun s addr byte rest hwf haddr hhost => ?write, fun s addr rest haddr hhost => ?read⟩
  case write =>
    exact ⟨s.buf.write addr byte, (step_of_host_cons hhost).trans (hostWrite_inside haddr byte _),
      Memory.read_write_same hwf addr byte, fun _ hne => Memory.read_write_other hne⟩
  case read => exact (step_of_host_cons hhost).trans (hostRead_inside haddr _)

/-- Settles O13: the step makes the access that is next, and the bounds refuse it. -/
theorem hostAccessOutsideBufStops : Obligations.HostAccessOutsideBufStops := fun _ _ byte _ haddr =>
  ⟨fun hhost => (step_of_host_cons hhost).trans (hostWrite_outside haddr byte _),
    fun hhost => (step_of_host_cons hhost).trans (hostRead_outside haddr _)⟩

/-- Settles O14: either action makes the core's state the reset state, with the host's own lists kept. -/
theorem resetActionClearsTheCore : Obligations.ResetActionClearsTheCore := fun _ _ _ hreset hhost =>
  (step_of_host_cons hhost).trans (perform_reset hreset _)

end Sys2Proof.Proofs
end
